-- ==== Sys2Proof/Word.lean ====
section
/-! DEFINITION. The value types of 00_scope R13: the 8-bit unit and the line level. Times and
durations in µs are plain `Nat`: counts that never wrap (10_state R29, R30, R38). -/

namespace Sys2Proof

/-- An unsigned 8-bit value, bit 7 the most significant (00_scope R13). -/
abbrev Byte := BitVec 8

/-- A line level or one bit: `false` is 0 ("low"), `true` is 1 ("high") (00_scope R13). -/
abbrev Bit := Bool

end Sys2Proof
end

