-- ==== Sys2Proof/Syntax.lean ====
section
/-! DEFINITION. The instruction set: the host's commands in the two decode contexts (00_scope R3, 30_encoding R70,
R74 to R76), one constructor per row of spec/opcode_table.json. -/

namespace Sys2Proof

/-- The two decode contexts of 30_encoding R77; `ctl` alone decides which one applies. -/
inductive Context where
  | main
  | sub
deriving DecidableEq, Repr

/-- A command as the engine dispatches it. No command carries an operand (30_encoding R73); the two catch-all rows
keep the opcode they were read from. -/
inductive Instr where
  /-- Inquiry, main context (44_inquiry_handler R180). -/
  | inquiry
  /-- Instant, main context (43_command_dispatcher R158). -/
  | instant
  /-- ModelNumber, main context (43_command_dispatcher R159). -/
  | modelNumber
  /-- Test, main context (43_command_dispatcher R160). -/
  | test
  /-- Any other opcode, main context (43_command_dispatcher R161). -/
  | unknown (opcode : Byte)
  /-- Instant, sub context (44_inquiry_handler R189). -/
  | subInstant
  /-- Any other opcode, sub context (44_inquiry_handler R192). -/
  | subDrop (opcode : Byte)
deriving DecidableEq, Repr

/-- The context in which an instruction is dispatched. -/
def Instr.context : Instr → Context
  | .inquiry => .main
  | .instant => .main
  | .modelNumber => .main
  | .test => .main
  | .unknown _ => .main
  | .subInstant => .sub
  | .subDrop _ => .sub

end Sys2Proof
end

