-- ==== Sys2Proof/WellFormed.lean ====
section
/-! DEFINITION. Which terms of `Instr` stand for a command: the catch-all rows exclude the opcodes that another row of
their context matches (30_encoding R75, R76). -/

namespace Sys2Proof

/-- `unknown` holds one of the 252 values that are no main-context opcode (30_encoding R75); `subDrop` one of the 255
values other than 0x14 (30_encoding R76). The other rows have no field. -/
def Instr.wf : Instr → Bool
  | .inquiry => true
  | .instant => true
  | .modelNumber => true
  | .test => true
  | .unknown op => op != 0x10 && op != 0x14 && op != 0x16 && op != 0x36
  | .subInstant => true
  | .subDrop op => op != 0x14

end Sys2Proof
end

