-- ==== Sys2Proof/Decode.lean ====
section
/-! DEFINITION. The decoder of a received unit in each context, and the encoder (30_encoding R70, R74 to R78). Every
unit decodes in every context; what the decoder rejects, by name, is a list of units that is not one unit. -/

namespace Sys2Proof

/-- Inquiry (00_scope R10). -/
def opInquiry : Byte := 0x10
/-- Instant (00_scope R10). -/
def opInstant : Byte := 0x14
/-- ModelNumber (00_scope R10). -/
def opModel : Byte := 0x16
/-- Test (00_scope R10). -/
def opTest : Byte := 0x36

/-- Main-context decode on all 8 bits (30_encoding R74, R75). -/
def decodeMain (op : Byte) : Instr :=
  if op = opInquiry then .inquiry
  else if op = opInstant then .instant
  else if op = opModel then .modelNumber
  else if op = opTest then .test
  else .unknown op

/-- Sub-context decode on all 8 bits (30_encoding R76). -/
def decodeSub (op : Byte) : Instr :=
  if op = opInstant then .subInstant else .subDrop op

/-- The instruction a received unit stands for in a context (30_encoding R77). -/
def decodeUnit : Context → Byte → Instr
  | .main, op => decodeMain op
  | .sub, op => decodeSub op

/-- Why a list of units is no command: a command's length is always one unit (30_encoding R70, R78). -/
inductive DecodeError where
  | noUnit
  | moreThanOneUnit
deriving DecidableEq, Repr

/-- The decoder on any list of units. -/
def decodeUnits (ctx : Context) : List Byte → Except DecodeError Instr
  | [] => .error .noUnit
  | [op] => .ok (decodeUnit ctx op)
  | _ :: _ :: _ => .error .moreThanOneUnit

/-- The unit of a command (30_encoding R74, R76). -/
def encode : Instr → Byte
  | .inquiry => opInquiry
  | .instant => opInstant
  | .modelNumber => opModel
  | .test => opTest
  | .unknown op => op
  | .subInstant => opInstant
  | .subDrop op => op

/-- The units of a table word, the first in bits 7..0. -/
def unitsOfWord : (n : Nat) → (w : Nat) → List Byte
  | 0, _ => []
  | n + 1, w => BitVec.ofNat 8 w :: unitsOfWord n (w / 256)

/-- The instruction the decoder reads from a table word. The word alone does not say the context, and 0x14 is a row of
each: this reads it in the main context, the context the engine is in after reset (log 12). -/
def decodeTableWord (nbits w : Nat) : Option Instr :=
  (decodeUnits .main (unitsOfWord (nbits / 8) w)).toOption

end Sys2Proof
end

