-- ==== Sys2Proof/Config.lean ====
section
/-! DEFINITION. What an implementation fixes (the parameters of 00_scope R11) and the free values: constants without a
body, which nothing in Lean can evaluate. -/

namespace Sys2Proof

/-- The four directions (00_scope R11). -/
inductive Dir where
  | up
  | down
  | left
  | right
deriving DecidableEq, Repr

/-- Press or release (00_scope R11). -/
inductive Edge where
  | press
  | release
deriving DecidableEq, Repr

/-- One value for each direction: a function on `Dir` as plain data. -/
structure PerDir (α : Type) where
  up : α
  down : α
  left : α
  right : α
deriving DecidableEq, Repr

/-- One value for each edge: a function on `Edge` as plain data. -/
structure PerEdge (α : Type) where
  press : α
  release : α
deriving DecidableEq, Repr

def PerDir.get {α : Type} (t : PerDir α) : Dir → α
  | .up => t.up
  | .down => t.down
  | .left => t.left
  | .right => t.right

def PerEdge.get {α : Type} (t : PerEdge α) : Edge → α
  | .press => t.press
  | .release => t.release

def PerDir.toList {α : Type} (t : PerDir α) : List α := [t.up, t.down, t.left, t.right]

def PerEdge.toList {α : Type} (t : PerEdge α) : List α := [t.press, t.release]

/-- The parameters of 00_scope R11 with their constraints. The default values are there only because Lean asks that
the type be inhabited before a constant of it may stand without a body: they are no values of the device, and nothing
in the model reads them (log 7). -/
structure Params where
  /-- SETTLE_US: settle delay after the start signal (D4). -/
  settleUs : Nat := 1
  /-- SUB_SETTLE_US: settle delay in the keypad sub-exchange, possibly 0 (D5). -/
  subSettleUs : Nat := 0
  /-- RX_LOW_US (D6). -/
  rxLowUs : Nat := 1
  /-- RX_SAMPLE_US (D6). -/
  rxSampleUs : Nat := 1
  /-- RX_POST_US (D6). -/
  rxPostUs : Nat := 1
  /-- TX_SETUP_US (D6). -/
  txSetupUs : Nat := 1
  /-- TX_LOW_US (D6). -/
  txLowUs : Nat := 1
  /-- TX_HIGH_US (D6). -/
  txHighUs : Nat := 1
  /-- HOLD_TOL is the rational `tolNum / tolDen` (D7). -/
  tolNum : Nat := 0
  tolDen : Nat := 1
  /-- POLL_MAX_US (D8). -/
  pollMaxUs : Nat := 1
  /-- ARROW_MARKER : Dir × Edge → Byte (D9). -/
  markers : PerDir (PerEdge Byte) := ⟨⟨0, 1⟩, ⟨2, 3⟩, ⟨4, 5⟩, ⟨6, 7⟩⟩
  /-- ARROW_CODE : Dir → Byte (D10). -/
  codes : PerDir Byte := ⟨0, 1, 2, 3⟩
  settle_pos : 0 < settleUs := by decide
  rxLow_pos : 0 < rxLowUs := by decide
  rxSample_pos : 0 < rxSampleUs := by decide
  rxPost_pos : 0 < rxPostUs := by decide
  txSetup_pos : 0 < txSetupUs := by decide
  txLow_pos : 0 < txLowUs := by decide
  txHigh_pos : 0 < txHighUs := by decide
  pollMax_pos : 0 < pollMaxUs := by decide
  /-- 0 ≤ HOLD_TOL < 1 (00_scope R11). -/
  tol_lt_one : tolNum < tolDen := by decide
  /-- ARROW_MARKER is injective: 8 distinct values (42_key_translator R144). -/
  markers_distinct : (markers.toList.flatMap PerEdge.toList).Nodup := by decide
  /-- ARROW_CODE is injective (42_key_translator R144). -/
  codes_distinct : codes.toList.Nodup := by decide
  /-- Bit 7 of every base code is 0 (42_key_translator R144). -/
  codes_bit7 : (codes.toList.all fun c => !c.getLsbD 7) = true := by decide
deriving DecidableEq, Repr, Inhabited

/-- ARROW_MARKER(d, e). -/
def Params.arrowMarker (P : Params) (d : Dir) (e : Edge) : Byte := (P.markers.get d).get e

/-- ARROW_CODE(d). -/
def Params.arrowCode (P : Params) (d : Dir) : Byte := P.codes.get d

/-- The parameters of the device: the spec leaves every one of them open (00_scope R11), so no value is given. -/
opaque Config.params : Params

/-- What the host drives in the n-th step that lets it move, past the script that State holds (20_memory R60). -/
opaque Config.hostDriveFree : Nat → Option Bit

/-- The n-th raw draw of the time of a host move, past the draws that State holds (40_line_interface R107). -/
opaque Config.moveDrawFree : Nat → Nat

/-- What the n-th `take()` answers, past the answers that State holds (20_memory R56, R66). -/
opaque Config.takeFree : Nat → Option Byte

/-- The n-th raw draw of a duration, past the draws that State holds (40_line_interface R105, R107). -/
opaque Config.drawFree : Nat → Nat

/-- The Data level the host sees while both sides drive, after n host moves (10_state R36, D18). -/
opaque Config.contentionFree : Nat → Bit

end Sys2Proof
end

