-- ==== Sys2Proof/Machine/State.lean ====
section
/-! DEFINITION. The state of the engine and of its environment as plain data (10_state), its value after reset
(10_state R43, 70_reset_and_hazards R230), and the reasons a step can stop (60_exceptions R201). -/

namespace Sys2Proof.Machine

/-- `ctl`, the control-state label: the 14 labels of 10_state R22. -/
inductive Ctl where
  /-- L_TOP. -/
  | top
  /-- L_IDLE. -/
  | idle
  /-- L_SETTLE. -/
  | settle
  /-- L_RX. -/
  | rx
  /-- L_WAITREADY. -/
  | waitReady
  /-- L_DISPATCH. -/
  | dispatch
  /-- L_INQ_POLL. -/
  | inqPoll
  /-- L_TX_ANSWER. -/
  | txAnswer
  /-- L_TX_KEYPAD. -/
  | txKeypad
  /-- L_SUB_IDLE. -/
  | subIdle
  /-- L_SUB_SETTLE. -/
  | subSettle
  /-- L_SUB_RX. -/
  | subRx
  /-- L_SUB_WAITREADY. -/
  | subWaitReady
  /-- L_SUB_DISPATCH. -/
  | subDispatch
deriving DecidableEq, Repr

/-- `phase`, the Bit Transceiver's position (10_state R23). -/
inductive Phase where
  | none
  | rxLow
  | rxHigh
  | rxPost
  | txSetup
  | txLow
  | txHigh
deriving DecidableEq, Repr

/-- `data_dir` (10_state R32): IN, pulled-up input, or OUT, driven output. -/
inductive DataDir where
  | input
  | output
deriving DecidableEq, Repr

/-- The engine (first twelve fields: the tuple of 10_state R21), its environment (10_state section 4) and the
parameters. -/
structure State where
  /-- 10_state R22. -/
  ctl : Ctl
  /-- 10_state R23. -/
  phase : Phase
  /-- 10_state R23: bits sampled in a receive, bits still to send in a send. -/
  bitcnt : Nat
  /-- 10_state R24: the receive accumulator. -/
  acc : Byte
  /-- 10_state R25: the last received command byte. -/
  op : Byte
  /-- 10_state R26: the unit being sent. -/
  tx : Byte
  /-- 10_state R27: the pending arrow marker. -/
  marker : Byte
  /-- 10_state R29: the Inquiry entry time. -/
  tEntry : Nat
  /-- 10_state R30: the end time of the hold in progress. -/
  tHoldEnd : Nat
  /-- 10_state R31: the Clock output level. -/
  clk : Bit
  /-- 10_state R32: the Data direction. -/
  dataDir : DataDir
  /-- 10_state R33: the level driven on Data while OUT. -/
  dataOut : Bit
  /-- 10_state R35: the host's driver on Data, `none` where it does not drive. -/
  hostDrive : Option Bit
  /-- 10_state R38: the environment's time. -/
  now : Nat
  /-- What the host drives in the coming steps (the model's own; 20_memory R60). -/
  hostMoves : List (Option Bit)
  /-- Host moves made so far (the model's own). -/
  moveCount : Nat
  /-- The raw draws of the times of the coming host moves (the model's own; 40_line_interface R107). -/
  moveDraws : List Nat
  /-- The time since which the host drives what it drives (the model's own; 70_reset_and_hazards R243). -/
  hostSince : Nat
  /-- The time of the last step that let the host move: its next move falls between then and `now` (the model's own). -/
  lastMove : Nat
  /-- The answers of the coming `take()` calls: the oracle of 20_memory R66 (the model's own; 10_state R37). -/
  takes : List (Option Byte)
  /-- `take()` calls made so far (the model's own). -/
  takeCount : Nat
  /-- The raw draws of the coming holds and poll periods (the model's own; 40_line_interface R105, R107). -/
  draws : List Nat
  /-- Draws used so far (the model's own). -/
  drawCount : Nat
  /-- The parameters of 00_scope R11; no step writes them. -/
  cfg : Params
deriving DecidableEq, Repr

/-- The model faults of 60_exceptions R201. No reachable state raises one (70_reset_and_hazards R231), and none is a
behaviour of the device. -/
inductive Fault where
  /-- Raised by `setData` while Data is input (40_line_interface R103). Safe: the spec names this fault. -/
  | setDataWhileInput
  /-- Raised by `readData` while Data is output (40_line_interface R104). Safe: the spec names this fault. -/
  | readDataWhileOutput
  /-- Raised by a step whose label, phase and bit count are no row of 10_state R22 and 41_bit_transceiver R130, R131.
  Safe: the spec gives such a state no successor (log 9). -/
  | badLabel
deriving DecidableEq, Repr

/-- The engine refuses no command: every unit has a meaning in every context (30_encoding R75, R76). -/
inductive Refusal where
  /-- An arm of `exec` without a meaning would answer this. Safe. No arm does. -/
  | notModelled (mnemonic : String)
deriving DecidableEq, Repr

/-- The three outcomes of a step, for this machine. -/
abbrev Res := Host.Outcome State Fault Refusal

/-- The state after power-on reset (10_state R43, 70_reset_and_hazards R230). The registers R43 leaves unspecified
hold 0 (log 1), the environment's fields are as log 3 says, and the parameters are those of the device (log 7). -/
def State.reset : State where
  ctl := .top
  phase := .none
  bitcnt := 0
  acc := 0
  op := 0
  tx := 0
  marker := 0
  tEntry := 0
  tHoldEnd := 0
  clk := true
  dataDir := .input
  dataOut := false
  hostDrive := none
  now := 0
  hostMoves := []
  moveCount := 0
  moveDraws := []
  hostSince := 0
  lastMove := 0
  takes := []
  takeCount := 0
  draws := []
  drawCount := 0
  cfg := Config.params

end Sys2Proof.Machine
end

