-- ==== Sys2Proof/Machine/Operands.lean ====
section
/-! DEFINITION. The values the engine computes with: the fixed responses (00_scope R10), the bits of a unit
(41_bit_transceiver), the Key Translator (42_key_translator) and the durations of holds and polls (40_line_interface). -/

namespace Sys2Proof.Machine

/-- KeypadAnnounce (00_scope R10). -/
def rspKeypad : Byte := 0x79
/-- The "no key" sentinel (00_scope R10). -/
def rspNoKey : Byte := 0x7B
/-- The model identifier (00_scope R10). -/
def rspModel : Byte := 0x05
/-- The test acknowledgement (00_scope R10). -/
def rspTest : Byte := 0x7D

/-- INQUIRY_TIMEOUT_US (00_scope R10). -/
def inquiryTimeoutUs : Nat := 250000

/-- `((acc << 1) | zext_8(b))[7:0]` (41_bit_transceiver R120). -/
def shiftIn (acc : Byte) (b : Bit) : Byte := (acc <<< 1) ||| (BitVec.ofBool b).setWidth 8

/-- `tx[bitcnt - 1]`, the bit a send puts out with `bitcnt` bits still to send (41_bit_transceiver R131). -/
def txBit (tx : Byte) (bitcnt : Nat) : Bit := tx.getLsbD (bitcnt - 1)

/-- The order in which `translate` tries the directions (42_key_translator R140). -/
def allDirs : List Dir := [.up, .down, .left, .right]

/-- The loop of 42_key_translator R140 over the directions still to try. -/
def translateOver (P : Params) (m : Byte) : List Dir → Byte
  | [] => rspNoKey
  | d :: ds =>
    if m = P.arrowMarker d .press then P.arrowCode d
    else if m = P.arrowMarker d .release then P.arrowCode d ||| 0x80
    else translateOver P m ds

/-- `translate(m)` (42_key_translator R140, R142). -/
def translateMarker (P : Params) (m : Byte) : Byte := translateOver P m allDirs

/-- MARKERS (42_key_translator R141). -/
def markerSet (P : Params) : List Byte :=
  allDirs.flatMap fun d => [P.arrowMarker d .press, P.arrowMarker d .release]

/-- The byte an Instant answers with for what `take()` returned (43_command_dispatcher R158). -/
def instantAnswer (k : Option Byte) : Byte := k.getD rspNoKey

/-- `ceil(D * (1 - HOLD_TOL))` (40_line_interface R105). -/
def holdMin (P : Params) (D : Nat) : Nat :=
  (D * (P.tolDen - P.tolNum) + (P.tolDen - 1)) / P.tolDen

/-- `floor(D * (1 + HOLD_TOL))` (40_line_interface R105). -/
def holdMax (P : Params) (D : Nat) : Nat := D * (P.tolDen + P.tolNum) / P.tolDen

/-- The value in `[lo, hi]` that a raw draw selects; every value of the interval is selected by some draw. -/
def drawBetween (lo hi raw : Nat) : Nat := lo + raw % (hi - lo + 1)

/-- The actual duration of `hold(D)` (40_line_interface R105). -/
def holdDuration (P : Params) (D : Nat) (raw : Nat) : Nat :=
  drawBetween (holdMin P D) (holdMax P D) raw

/-- A poll period p with 0 < p ≤ POLL_MAX_US (40_line_interface R107). -/
def pollDuration (P : Params) (raw : Nat) : Nat := drawBetween 1 P.pollMaxUs raw

end Sys2Proof.Machine
end

