-- ==== Sys2Proof/Machine/Flags.lean ====
section
/-! DEFINITION. The engine stores no flag (10_state R40): these are the conditions it tests on the spot. -/

namespace Sys2Proof.Machine

/-- `isMarker(v)` (42_key_translator R141). -/
def isMarker (P : Params) (v : Byte) : Bool := (markerSet P).contains v

/-- `now() - t_entry ≥ INQUIRY_TIMEOUT_US` (44_inquiry_handler R180). -/
def deadlinePassed (s : State) : Bool := decide (inquiryTimeoutUs ≤ s.now - s.tEntry)

/-- A hold has been started and `now()` has not reached `t_hold_end` (40_line_interface R105). -/
def holdInProgress (s : State) : Bool := decide (s.now < s.tHoldEnd)

end Sys2Proof.Machine
end

