-- ==== Sys2Proof/Machine/Ops.lean ====
section
/-! DEFINITION. The primitives of 00_scope R15: the Line Interface and the timing primitives (40_line_interface), the
key source (20_memory R56), and how the environment moves between two operations (20_memory R60). The engine takes no
exception and returns from none (60_exceptions R200, R208, R209), so no such operation stands here. -/

namespace Sys2Proof.Machine

/-! The environment's choices: the script in State first, then the free values. -/

/-- What the host drives in the k-th step from now that lets it move. -/
def State.hostAt (s : State) (k : Nat) : Option Bit :=
  s.hostMoves.getD k (Config.hostDriveFree (s.moveCount + k))

/-- The raw draw of the time of the host's move in the k-th step from now that lets it move. -/
def State.moveDrawAt (s : State) (k : Nat) : Nat :=
  s.moveDraws.getD k (Config.moveDrawFree (s.moveCount + k))

/-- What the k-th `take()` from now answers (20_memory R56, R66). -/
def State.takeAt (s : State) (k : Nat) : Option Byte :=
  s.takes.getD k (Config.takeFree (s.takeCount + k))

/-- The k-th raw draw from now. -/
def State.drawAt (s : State) (k : Nat) : Nat :=
  s.draws.getD k (Config.drawFree (s.drawCount + k))

/-- `ctl <- L` (00_scope R14). -/
def goto (L : Ctl) (s : State) : State := { s with ctl := L }

/-- `phase <- p`. -/
def setPhase (p : Phase) (s : State) : State := { s with phase := p }

/-! The Line Interface. -/

/-- `setClock(l)` (40_line_interface R101). -/
def setClock (l : Bit) (s : State) : State := { s with clk := l }

/-- `setDataDirection(d)` (40_line_interface R102). -/
def setDataDirection (d : DataDir) (s : State) : State := { s with dataDir := d }

/-- `setData(l)`, with its precondition (40_line_interface R103). -/
def setData (l : Bit) (s : State) : Res :=
  match s.dataDir with
  | .output => .next { s with dataOut := l }
  | .input => .fault .setDataWhileInput

/-- `wire_data`: the host's level, or 1 from the pull-up (10_state R36). -/
def wireData (s : State) : Bit := s.hostDrive.getD true

/-- `readData()`, with its precondition (40_line_interface R104). -/
def readData (s : State) : Except Fault Bit :=
  match s.dataDir with
  | .input => .ok (wireData s)
  | .output => .error .readDataWhileOutput

/-- The Data level the host sees (10_state R36, 40_line_interface R109): free while both sides drive (D18). The
engine never reads it. -/
def dataSeenByHost (s : State) : Bit :=
  match s.dataDir with
  | .input => wireData s
  | .output => if s.hostDrive = none then s.dataOut else Config.contentionFree s.moveCount

/-! Timing. -/

/-- A draw is used. -/
def useDraw (s : State) : State := { s with draws := s.draws.tail, drawCount := s.drawCount + 1 }

/-- `hold(D)` begins: its actual duration is drawn and its end time written (40_line_interface R105). -/
def hold (D : Nat) (s : State) : State :=
  { useDraw s with tHoldEnd := s.now + holdDuration s.cfg D (s.drawAt 0) }

/-- The time between two samples of a poll loop (40_line_interface R107, 44_inquiry_handler R180). -/
def pollWait (s : State) : State :=
  { useDraw s with now := s.now + pollDuration s.cfg (s.drawAt 0) }

/-- Since when the host drives `d` after a move: as before if it drove `d` already, and else since some time between the
last step that let it move and this one (40_line_interface R107, 70_reset_and_hazards R243; log 19). -/
def hostSinceAfter (d : Option Bit) (s : State) : Nat :=
  if d = s.hostDrive then s.hostSince else drawBetween s.lastMove s.now (s.moveDrawAt 0)

/-- The host has moved, at some time since the last step that let it move (20_memory R60; logs 5 and 19). `now` is the
time of the operation that follows. -/
def tick (s : State) : State :=
  { s with
    hostDrive := s.hostAt 0
    hostSince := hostSinceAfter (s.hostAt 0) s
    lastMove := s.now
    hostMoves := s.hostMoves.tail
    moveDraws := s.moveDraws.tail
    moveCount := s.moveCount + 1 }

/-- The hold in progress has ended: `now()` has reached `t_hold_end` (40_line_interface R105). Only the settle labels
and the rows of a frame, each of which has a hold before it, do this. -/
def endHold (s : State) : State := { s with now := max s.now s.tHoldEnd }

/-- One sample of `waitData(l)`, and the transfer of control that follows it (40_line_interface R107). -/
def waitData (l : Bit) (L : Ctl) (s : State) : Res :=
  match readData s with
  | .error f => .fault f
  | .ok b => if b = l then .next (goto L s) else .next (pollWait s)

/-! The key source. -/

/-- The key source after one `take()`: the unit it returned is consumed (20_memory R56, R57). -/
def taken (s : State) : State := { s with takes := s.takes.tail, takeCount := s.takeCount + 1 }

/-- `take()` (20_memory R56). -/
def take (s : State) : Option Byte × State := (s.takeAt 0, taken s)

/-! Answers. -/

/-- `tx <- v; ctl <- L`: how every rule that answers the host ends (43_command_dispatcher R157). -/
def sendAt (L : Ctl) (v : Byte) (s : State) : State := { s with tx := v, ctl := L }

/-- The rest of a step, after an operation that may fault. -/
def andThen (r : Res) (f : State → State) : Res :=
  match r with
  | .next s => .next (f s)
  | .fault e => .fault e
  | .refused e => .refused e

end Sys2Proof.Machine
end

