-- ==== Sys2Proof/Machine/BitTransceiver.lean ====
section
/-! DEFINITION. The Bit Transceiver in its small-step form (41_bit_transceiver R130, R131): one row a step, each after
the hold of the row before it has ended. The entry rows are `rxEntry` and `txEntry`, which run in the step that reaches
their label (`arrive`). In every row the host moves first, during the hold that the row ends. -/

namespace Sys2Proof.Machine

/-- Clock falls and the low hold of a receive period begins (R130, rows 1 and 4). -/
def rxClockLow (s : State) : State := setPhase .rxLow (hold s.cfg.rxLowUs (setClock false s))

/-- Clock rises and the high-to-sample hold begins (R130, row 2). -/
def rxClockHigh (s : State) : State := setPhase .rxHigh (hold s.cfg.rxSampleUs (setClock true s))

/-- The sampled bit is folded in and the post-sample hold begins (R130, row 3). -/
def rxFold (b : Bit) (s : State) : State :=
  setPhase .rxPost (hold s.cfg.rxPostUs { s with acc := shiftIn s.acc b, bitcnt := s.bitcnt + 1 })

/-- The entry row of receiveByte (R130, row 1). -/
def rxEntry (s : State) : State := rxClockLow { s with acc := 0, bitcnt := 0 }

/-- One row of receiveByte; control goes to `L` after the eighth bit (R130). A frame that has not been entered stays for
its entry row. -/
def stepReceive (L : Ctl) (s : State) : Res :=
  match s.phase with
  | .none => .next (tick s)
  | .rxLow => .next (rxClockHigh (tick (endHold s)))
  | .rxHigh =>
    match readData (tick (endHold s)) with
    | .error f => .fault f
    | .ok b => .next (rxFold b (tick (endHold s)))
  | .rxPost =>
    if s.bitcnt < 8 then .next (rxClockLow (tick (endHold s)))
    else if s.bitcnt = 8 then .next (goto L (setPhase .none { tick (endHold s) with op := s.acc }))
    else .fault .badLabel
  | .txSetup => .fault .badLabel
  | .txLow => .fault .badLabel
  | .txHigh => .fault .badLabel

/-- The setup hold of a send period begins, Data being set (R131, rows 1 and 4). -/
def txBeginSetup (s : State) : State := setPhase .txSetup (hold s.cfg.txSetupUs s)

/-- Clock falls and the low hold of a send period begins (R131, row 2). -/
def txClockLow (s : State) : State := setPhase .txLow (hold s.cfg.txLowUs (setClock false s))

/-- Clock rises, where the host samples, and the high hold begins (R131, row 3). -/
def txClockHigh (s : State) : State := setPhase .txHigh (hold s.cfg.txHighUs (setClock true s))

/-- The entry row of sendByte (R131, row 1): Data is switched to OUT and set to its first level in one step (D16), so
the precondition of `setData` holds. -/
def txEntry (s : State) : State :=
  txBeginSetup { setDataDirection .output s with bitcnt := 8, dataOut := txBit s.tx 8 }

/-- One row of sendByte; control goes to `L` after the eighth bit (R131). A frame that has not been entered stays for
its entry row. -/
def stepSend (L : Ctl) (s : State) : Res :=
  match s.phase with
  | .none => .next (tick s)
  | .txSetup => .next (txClockLow (tick (endHold s)))
  | .txLow => .next (txClockHigh (tick (endHold s)))
  | .txHigh =>
    if 1 < s.bitcnt then
      andThen (setData (txBit s.tx (s.bitcnt - 1)) { tick (endHold s) with bitcnt := s.bitcnt - 1 }) txBeginSetup
    else if s.bitcnt = 1 then
      .next (goto L (setPhase .none (setDataDirection .input { tick (endHold s) with bitcnt := 0 })))
    else .fault .badLabel
  | .rxLow => .fault .badLabel
  | .rxHigh => .fault .badLabel
  | .rxPost => .fault .badLabel

end Sys2Proof.Machine
end

