-- ==== Sys2Proof/Machine/CommandDispatcher.lean ====
section
/-! DEFINITION. The Command Dispatcher: the steps of its labels (43_command_dispatcher R150 to R157) and the meanings
of the main-context commands other than Inquiry (R158 to R161). -/

namespace Sys2Proof.Machine

/-- L_TOP (R150). -/
def stepTop (s : State) : Res := .next (goto .idle (setDataDirection .input (tick s)))

/-- L_IDLE (R151). -/
def stepIdle (s : State) : Res := waitData false .settle (tick s)

/-- L_SETTLE (R152): its hold, which began at the sample that read Data low, ends. -/
def stepSettle (s : State) : Res := .next (goto .rx (tick (endHold s)))

/-- L_RX (R153). -/
def stepRx (s : State) : Res := stepReceive .waitReady s

/-- L_WAITREADY (R154). -/
def stepWaitReady (s : State) : Res := waitData true .dispatch (tick s)

/-- L_TX_ANSWER (R157). -/
def stepTxAnswer (s : State) : Res := stepSend .top s

/-- INSTANT (R158): exactly one `take()`; what it returned is answered verbatim, or "no key". -/
def execInstant (s : State) : Res :=
  .next (sendAt .txAnswer (instantAnswer (take s).1) (take s).2)

/-- MODELNUMBER (R159). -/
def execModelNumber (s : State) : Res := .next (sendAt .txAnswer rspModel s)

/-- TEST (R160). -/
def execTest (s : State) : Res := .next (sendAt .txAnswer rspTest s)

/-- UNKNOWN (R161): no frame is sent. -/
def execUnknown (s : State) : Res := .next (goto .top s)

end Sys2Proof.Machine
end

