-- ==== Sys2Proof/Machine/InquiryHandler.lean ====
section
/-! DEFINITION. The Inquiry Handler and the keypad sub-exchange: the steps of its labels (44_inquiry_handler R180 to
R188) and the meanings of INQUIRY, SUB_INSTANT and SUB_DROP (R180, R189, R192). -/

namespace Sys2Proof.Machine

/-- INQUIRY (R180, entry). The poll loop is the step of L_INQ_POLL. -/
def execInquiry (s : State) : Res := .next { s with tEntry := s.now, ctl := .inqPoll }

/-- The deadline outcome (R181). -/
def deadlineOutcome (s : State) : State := sendAt .txAnswer rspNoKey s

/-- The key outcome (R182): an ordinary keycode verbatim, or KeypadAnnounce for an arrow marker. -/
def keyOutcome (b : Byte) (s : State) : State :=
  if isMarker s.cfg b then sendAt .txKeypad rspKeypad { s with marker := b }
  else sendAt .txAnswer b s

/-- One poll iteration: `take()` first, the deadline only after `none` (R180, D14). -/
def inquiryPoll (s : State) : State :=
  match take s with
  | (some b, s') => keyOutcome b s'
  | (none, s') => if deadlinePassed s' then deadlineOutcome s' else pollWait s'

/-- L_INQ_POLL (R180). -/
def stepInqPoll (s : State) : Res := .next (inquiryPoll (tick s))

/-- L_TX_KEYPAD (R183). -/
def stepTxKeypad (s : State) : Res := stepSend .subIdle s

/-- L_SUB_IDLE (R184). -/
def stepSubIdle (s : State) : Res := waitData false .subSettle (tick s)

/-- L_SUB_SETTLE (R185): its hold, which may be of 0, ends. -/
def stepSubSettle (s : State) : Res := .next (goto .subRx (tick (endHold s)))

/-- L_SUB_RX (R186). -/
def stepSubRx (s : State) : Res := stepReceive .subWaitReady s

/-- L_SUB_WAITREADY (R187). -/
def stepSubWaitReady (s : State) : Res := waitData true .subDispatch (tick s)

/-- SUB_INSTANT (R189): the arrow answer; no `take()`. -/
def execSubInstant (s : State) : Res := .next (sendAt .txAnswer (translateMarker s.cfg s.marker) s)

/-- SUB_DROP (R192): no frame is sent, and the marker is dead from here. -/
def execSubDrop (s : State) : Res := .next (goto .top s)

end Sys2Proof.Machine
end

