-- ==== Sys2Proof/Machine/Fetch.lean ====
section
/-! DEFINITION. Where the engine's next command comes from, the step of every label at which none is dispatched
(10_state R22), and what the engine does on reaching a label. -/

namespace Sys2Proof.Machine

/-- The command unit that is dispatched now, with its context: `op`, at the two dispatch labels (30_encoding R77,
43_command_dispatcher R155, 44_inquiry_handler R188). -/
def fetch (s : State) : Option (Context × Byte) :=
  match s.ctl with
  | .dispatch => some (.main, s.op)
  | .subDispatch => some (.sub, s.op)
  | .top => none
  | .idle => none
  | .settle => none
  | .rx => none
  | .waitReady => none
  | .inqPoll => none
  | .txAnswer => none
  | .txKeypad => none
  | .subIdle => none
  | .subSettle => none
  | .subRx => none
  | .subWaitReady => none

/-- The step of a label at which no command is dispatched. The two dispatch labels never come here. -/
def stepLabel (s : State) : Res :=
  match s.ctl with
  | .top => stepTop s
  | .idle => stepIdle s
  | .settle => stepSettle s
  | .rx => stepRx s
  | .waitReady => stepWaitReady s
  | .inqPoll => stepInqPoll s
  | .txAnswer => stepTxAnswer s
  | .txKeypad => stepTxKeypad s
  | .subIdle => stepSubIdle s
  | .subSettle => stepSubSettle s
  | .subRx => stepSubRx s
  | .subWaitReady => stepSubWaitReady s
  | .dispatch => .fault .badLabel
  | .subDispatch => .fault .badLabel

/-- What the engine does at once, in no time, on reaching a label: at a settle label its hold begins
(43_command_dispatcher R152, 44_inquiry_handler R185), and at a transceiver label, `phase` being NONE, the entry row of
the frame runs (41_bit_transceiver R130, R131). So `phase` is NONE between two steps exactly when the label is no
transceiver label (10_state R23; log 11). -/
def arrive (s : State) : State :=
  match s.ctl with
  | .settle => hold s.cfg.settleUs s
  | .subSettle => hold s.cfg.subSettleUs s
  | .rx => if s.phase = .none then rxEntry s else s
  | .subRx => if s.phase = .none then rxEntry s else s
  | .txAnswer => if s.phase = .none then txEntry s else s
  | .txKeypad => if s.phase = .none then txEntry s else s
  | .top => s
  | .idle => s
  | .waitReady => s
  | .dispatch => s
  | .inqPoll => s
  | .subIdle => s
  | .subWaitReady => s
  | .subDispatch => s

/-- The context of a label: sub from KeypadAnnounce until the sub-exchange's dispatch (44_inquiry_handler R194). -/
def contextOf : Ctl → Context
  | .top => .main
  | .idle => .main
  | .settle => .main
  | .rx => .main
  | .waitReady => .main
  | .dispatch => .main
  | .inqPoll => .main
  | .txAnswer => .main
  | .txKeypad => .sub
  | .subIdle => .sub
  | .subSettle => .sub
  | .subRx => .sub
  | .subWaitReady => .sub
  | .subDispatch => .sub

/-- The dispatch label of a context. -/
def dispatchLabel : Context → Ctl
  | .main => .dispatch
  | .sub => .subDispatch

/-- The state in which `u` has been received and the ready signal seen, in the context the engine is in. -/
def loadCommand (u : Byte) (s : State) : State :=
  { s with op := u, ctl := dispatchLabel (contextOf s.ctl) }

end Sys2Proof.Machine
end

