-- ==== Sys2Proof/Machine/Dispatch.lean ====
section
/-! DEFINITION. The meaning of every command, one arm per row of spec/opcode_table.json. -/

namespace Sys2Proof.Machine

def exec (i : Instr) (s : State) : Host.Outcome State Fault Refusal :=
  match i with
  | .inquiry => Sys2Proof.Machine.execInquiry s
  | .instant => Sys2Proof.Machine.execInstant s
  | .modelNumber => Sys2Proof.Machine.execModelNumber s
  | .test => Sys2Proof.Machine.execTest s
  | .unknown _ => Sys2Proof.Machine.execUnknown s
  | .subInstant => Sys2Proof.Machine.execSubInstant s
  | .subDrop _ => Sys2Proof.Machine.execSubDrop s

end Sys2Proof.Machine
end

