-- ==== Sys2Proof/Machine/Step.lean ====
section
/-! DEFINITION. One step of the engine, and the state in which the next step runs a given command. -/

namespace Sys2Proof.Machine

/-- One step: the dispatched command's meaning at a dispatch label (which takes no time, 43_command_dispatcher R155),
else the label's own step; and then what the engine does on reaching the next label. -/
def step (s : State) : Host.Outcome State Fault Refusal :=
  match fetch s with
  | some u => andThen (exec (decodeUnit u.1 u.2) s) arrive
  | none => andThen (stepLabel s) arrive

/-- The state in which the next step dispatches the command of a table word (logs 12 and 13). A command is one unit,
so the word's low 8 bits are all of it (30_encoding R78). -/
def State.withFetchWord (s : State) (_nbits w : Nat) : State := loadCommand (BitVec.ofNat 8 w) s

end Sys2Proof.Machine
end

