-- ==== Sys2Proof/Safety.lean ====
section
/-! DEFINITION. The terms claims are written in: runs, the invariant of the reachable states (10_state R23,
43_command_dispatcher R164, 70_reset_and_hazards R231, R236), which registers are live (R231, R238), and what the host
reads (41_bit_transceiver R125). -/

namespace Sys2Proof.Machine

/-- `n` steps, stopping at the first fault or refusal. -/
def steps : Nat → State → Res
  | 0, s => .next s
  | n + 1, s =>
    match step s with
    | .next s' => steps n s'
    | .fault e => .fault e
    | .refused e => .refused e

/-! Classes of labels and phases. -/

/-- The labels at which a unit is received. -/
def Ctl.isReceive (c : Ctl) : Bool := c = .rx || c = .subRx

/-- The labels at which a unit is sent. -/
def Ctl.isSend (c : Ctl) : Bool := c = .txAnswer || c = .txKeypad

/-- The labels that are one hold. -/
def Ctl.isSettle (c : Ctl) : Bool := c = .settle || c = .subSettle

/-- The four `waitData` labels of 60_exceptions R203. -/
def Ctl.isWait (c : Ctl) : Bool := c = .idle || c = .waitReady || c = .subIdle || c = .subWaitReady

def Phase.isReceive (p : Phase) : Bool := p = .rxLow || p = .rxHigh || p = .rxPost

def Phase.isSend (p : Phase) : Bool := p = .txSetup || p = .txLow || p = .txHigh

/-- Where a receive leaves control (43_command_dispatcher R153, 44_inquiry_handler R186). -/
def afterReceive (c : Ctl) : Ctl := if c = .rx then .waitReady else .subWaitReady

/-- Where a send leaves control (43_command_dispatcher R157, 44_inquiry_handler R183). -/
def afterSend (c : Ctl) : Ctl := if c = .txAnswer then .top else .subIdle

/-- The level a wait label polls for (60_exceptions R203). -/
def awaited (c : Ctl) : Bit := c = .waitReady || c = .subWaitReady

/-- Where a wait leaves control (R151, R154, R184, R187). -/
def afterWait : Ctl → Ctl
  | .idle => .settle
  | .waitReady => .dispatch
  | .subIdle => .subSettle
  | .subWaitReady => .subDispatch
  | c => c

/-- The edges of the label graph between different labels (10_state R22, R150 to R161, R180 to R192). -/
def labelGraph : List (Ctl × Ctl) :=
  [(.top, .idle), (.idle, .settle), (.settle, .rx), (.rx, .waitReady), (.waitReady, .dispatch),
   (.dispatch, .inqPoll), (.dispatch, .txAnswer), (.dispatch, .top),
   (.inqPoll, .txAnswer), (.inqPoll, .txKeypad), (.txAnswer, .top),
   (.txKeypad, .subIdle), (.subIdle, .subSettle), (.subSettle, .subRx), (.subRx, .subWaitReady),
   (.subWaitReady, .subDispatch), (.subDispatch, .txAnswer), (.subDispatch, .top)]

/-! The invariant. -/

/-- `phase` is a receive phase exactly at the receive labels and a send phase exactly at the send labels, and so NONE
exactly at the others (10_state R23). -/
abbrev PhaseFits (s : State) : Prop :=
  (s.phase.isReceive = true ↔ s.ctl.isReceive = true) ∧ (s.phase.isSend = true ↔ s.ctl.isSend = true)

/-- `bitcnt` is in 0..8 and names a row of 41_bit_transceiver R130 or R131. -/
abbrev BitcntFits (s : State) : Prop :=
  s.bitcnt ≤ 8 ∧ (s.phase = .rxLow → s.bitcnt < 8) ∧ (s.phase = .rxHigh → s.bitcnt < 8) ∧
    (s.phase = .rxPost → 0 < s.bitcnt) ∧ (s.phase.isSend = true → 0 < s.bitcnt)

/-- Data is an output exactly while the engine transmits (41_bit_transceiver R127). -/
abbrev DataDirFits (s : State) : Prop := s.dataDir = .output ↔ s.phase.isSend = true

/-- Clock is low exactly in the low part of a bit period (43_command_dispatcher R164). -/
abbrev ClockFits (s : State) : Prop := s.clk = false ↔ (s.phase = .rxLow ∨ s.phase = .txLow)

/-- During a send Data carries the bit of its period (41_bit_transceiver R124, corner case b). -/
abbrev DataOutFits (s : State) : Prop := s.phase.isSend = true → s.dataOut = txBit s.tx s.bitcnt

/-- In the sub context `marker` is an arrow marker (44_inquiry_handler R189). -/
abbrev MarkerFits (s : State) : Prop := contextOf s.ctl = .sub → isMarker s.cfg s.marker = true

/-- L_TX_KEYPAD sends KeypadAnnounce (44_inquiry_handler R183). -/
abbrev AnnounceFits (s : State) : Prop := s.ctl = .txKeypad → s.tx = rspKeypad

/-- A hold is in progress only inside a frame or at a settle label (40_line_interface R105). -/
abbrev HoldFits (s : State) : Prop :=
  holdInProgress s = true → s.phase ≠ .none ∨ s.ctl.isSettle = true

/-- The poll loop is at most one poll period past its deadline (44_inquiry_handler R181). -/
abbrev InquiryFits (s : State) : Prop :=
  s.ctl = .inqPoll → s.tEntry ≤ s.now ∧ s.now < s.tEntry + inquiryTimeoutUs + s.cfg.pollMaxUs

/-- The host's last move and the step that let it move are in the past, no longer ago than a poll period
(40_line_interface R107): only a poll period passes without a host move at its end. -/
abbrev HostTimeFits (s : State) : Prop :=
  s.hostSince ≤ s.lastMove ∧ s.lastMove ≤ s.now ∧ s.now ≤ s.lastMove + s.cfg.pollMaxUs

/-- The invariant of the reachable states. -/
abbrev EngineInv (s : State) : Prop :=
  PhaseFits s ∧ BitcntFits s ∧ DataDirFits s ∧ ClockFits s ∧ DataOutFits s ∧ MarkerFits s ∧ AnnounceFits s ∧
    HoldFits s ∧ InquiryFits s ∧ HostTimeFits s

/-- The quiescent states (70_reset_and_hazards R238). -/
abbrev Quiescent (s : State) : Prop :=
  s.ctl = .idle ∧ s.phase = .none ∧ s.dataDir = .input ∧ s.clk = true

/-! Live registers. -/

/-- The labels at which `op` will still be read (70_reset_and_hazards R231). -/
def opLive (c : Ctl) : Bool := c = .waitReady || c = .dispatch || c = .subWaitReady || c = .subDispatch

/-- The two states agree on everything but registers that are dead at their label and phase: those that will be
written before they are read (70_reset_and_hazards R231, R238; 10_state R27). -/
abbrev SameLive (s t : State) : Prop :=
  (s.ctl = t.ctl ∧ s.phase = t.phase ∧ s.clk = t.clk ∧ s.dataDir = t.dataDir) ∧
  (s.hostDrive = t.hostDrive ∧ s.now = t.now ∧ s.hostMoves = t.hostMoves ∧ s.moveCount = t.moveCount ∧
    s.moveDraws = t.moveDraws ∧ s.hostSince = t.hostSince ∧ s.lastMove = t.lastMove ∧
    s.takes = t.takes ∧ s.takeCount = t.takeCount ∧ s.draws = t.draws ∧ s.drawCount = t.drawCount ∧
    s.cfg = t.cfg) ∧
  (s.phase ≠ .none → s.bitcnt = t.bitcnt) ∧
  (s.phase.isReceive = true → s.acc = t.acc) ∧
  (opLive s.ctl = true → s.op = t.op) ∧
  (s.ctl.isSend = true → s.tx = t.tx) ∧
  (contextOf s.ctl = .sub → s.marker = t.marker) ∧
  (s.ctl = .inqPoll → s.tEntry = t.tEntry) ∧
  (s.phase ≠ .none ∨ s.ctl.isSettle = true → s.tHoldEnd = t.tHoldEnd) ∧
  (s.dataDir = .output → s.dataOut = t.dataOut)

/-- Two outcomes that no later step can tell apart by a dead register. -/
def SameLiveOutcome : Res → Res → Prop
  | .next s, .next t => SameLive s t
  | .fault e, .fault f => e = f
  | .refused e, .refused f => e = f
  | _, _ => False

/-! The wire as the host and the engine see it. -/

/-- The level on Data, as input, for what the host drives (10_state R36). -/
def levelOf (d : Option Bit) : Bit := d.getD true

/-- A step made a rising Clock edge of a send: where the host samples (41_bit_transceiver R125). -/
def hostSamples (s s' : State) : Bool := !s.clk && s'.clk && decide (s'.dataDir = .output)

/-- The Data levels the host reads at the rising edges of sends during `n` steps, the first level first. -/
def hostReads : Nat → State → List Bit
  | 0, _ => []
  | n + 1, s =>
    match step s with
    | .next s' => if hostSamples s s' then dataSeenByHost s' :: hostReads n s' else hostReads n s'
    | .fault _ => []
    | .refused _ => []

/-- The bits of a unit in wire order, bit 7 first (20_memory R51). -/
def msbFirst (v : Byte) : List Bit := (List.range 8).map fun k => v.getLsbD (7 - k)

/-! Holds and frames. -/

/-- A hold of nominal duration `D` has just begun (40_line_interface R105). -/
abbrev HoldsFor (s : State) (D : Nat) : Prop :=
  s.now + holdMin s.cfg D ≤ s.tHoldEnd ∧ s.tHoldEnd ≤ s.now + holdMax s.cfg D

/-- The entry row of a receive has just run (41_bit_transceiver R130). -/
abbrev BeginsReceive (s : State) : Prop :=
  s.ctl.isReceive = true ∧ s.phase = .rxLow ∧ s.bitcnt = 0 ∧ s.dataDir = .input ∧ HoldsFor s s.cfg.rxLowUs

/-- The entry row of a send has just run (41_bit_transceiver R131). -/
abbrev BeginsSend (s : State) : Prop :=
  s.ctl.isSend = true ∧ s.phase = .txSetup ∧ s.bitcnt = 8 ∧ s.dataDir = .output ∧ s.dataOut = s.tx.getLsbD 7 ∧
    HoldsFor s s.cfg.txSetupUs

/-! The host's duties, in its moves. -/

/-- Duty H2 of 60_exceptions R215 for a receive whose entry row has run `o` host moves from now: bit 7-k of `c` is on
Data at the k-th sample point. -/
abbrev HostPresents (c : Byte) (o : Nat) (s : State) : Prop :=
  ∀ k, k < 8 → levelOf (s.hostAt (o + 3 * k + 1)) = c.getLsbD (7 - k)

/-- Duty H4 of 60_exceptions R215 at the rising edges of a send whose entry row has run `o` host moves from now. -/
abbrev HostListens (o : Nat) (s : State) : Prop := ∀ k, k < 8 → s.hostAt (o + 3 * k + 1) = none

/-- Duties H1 to H3 of 60_exceptions R215 for one command `c` from a wait for the start signal: Data low at once, the
bits of `c`, then Data high. -/
abbrev HostSends (c : Byte) (s : State) : Prop :=
  levelOf (s.hostAt 0) = false ∧ HostPresents c 2 s ∧ levelOf (s.hostAt 26) = true

/-- The steps, and host moves, from the start signal's sample to the dispatch: the sample, the settle label, the 24 rows
after the entry row of a receive, and the ready sample. -/
def receptionSteps : Nat := 27

end Sys2Proof.Machine
end

