-- ==== Sys2Proof/Certificates/Slice0/Obligations.lean ====
section
/-! DEFINITION. The statements for the provers. A title that rests on a choice of the model names its log entry. -/

open Sys2Proof Sys2Proof.Machine

/-! Encoding. -/

/-- 30_encoding R70, R74 to R76: the unit of a well-formed command decodes to it, in its own context. -/
def Obligations.DecodeEncodeRoundTrip : Prop :=
  ∀ i : Instr, i.wf = true →
    decodeUnit i.context (encode i) = i ∧ decodeUnits i.context [encode i] = .ok i

/-- 30_encoding R74 to R76: every unit is a well-formed command of each context, and encodes back to itself. -/
def Obligations.EveryUnitIsACommandOfEachContext : Prop :=
  ∀ (ctx : Context) (u : Byte),
    (decodeUnit ctx u).wf = true ∧ (decodeUnit ctx u).context = ctx ∧ encode (decodeUnit ctx u) = u

/-- 30_encoding R74, R76: the words of the table, written out bit by bit. -/
def Obligations.TableWordsDecodeToTheirCommands : Prop :=
  decodeUnit .main 0b00010000#8 = .inquiry ∧ decodeUnit .main 0b00010100#8 = .instant ∧
  decodeUnit .main 0b00010110#8 = .modelNumber ∧ decodeUnit .main 0b00110110#8 = .test ∧
  decodeUnit .main 0b01111001#8 = .unknown 0x79 ∧
  decodeUnit .sub 0b00010100#8 = .subInstant ∧ decodeUnit .sub 0b00010000#8 = .subDrop 0x10

/-! Dispatch. -/

/-- 43_command_dispatcher R155, 44_inquiry_handler R188: at a dispatch label the step is the meaning of the command
that `op` stands for in the label's context; then the entry row of the answer runs, if the meaning reached a send label
(ArrivingBeginsTheHoldOrTheFrame says what `arrive` does; log 11). -/
def Obligations.StepRunsTheDispatchedCommand : Prop :=
  ∀ s : State,
    (s.ctl = .dispatch → step s = andThen (exec (decodeUnit .main s.op) s) arrive) ∧
    (s.ctl = .subDispatch → step s = andThen (exec (decodeUnit .sub s.op) s) arrive)

/-- 43_command_dispatcher R152, 44_inquiry_handler R185, 41_bit_transceiver R130 and R131 (first rows): on reaching a
label its hold begins, or the entry row of its frame runs; nothing happens at any other label or inside a frame. -/
def Obligations.ArrivingBeginsTheHoldOrTheFrame : Prop :=
  ∀ s : State,
    (s.ctl = .settle → arrive s = hold s.cfg.settleUs s) ∧
    (s.ctl = .subSettle → arrive s = hold s.cfg.subSettleUs s) ∧
    (s.ctl.isReceive = true → s.phase = .none →
      ∃ d, holdMin s.cfg s.cfg.rxLowUs ≤ d ∧ d ≤ holdMax s.cfg s.cfg.rxLowUs ∧
        arrive s = { s with
          acc := 0, bitcnt := 0, clk := false, phase := .rxLow, tHoldEnd := s.now + d,
          draws := s.draws.tail, drawCount := s.drawCount + 1 }) ∧
    (s.ctl.isSend = true → s.phase = .none →
      ∃ d, holdMin s.cfg s.cfg.txSetupUs ≤ d ∧ d ≤ holdMax s.cfg s.cfg.txSetupUs ∧
        arrive s = { s with
          bitcnt := 8, dataDir := .output, dataOut := s.tx.getLsbD 7, phase := .txSetup, tHoldEnd := s.now + d,
          draws := s.draws.tail, drawCount := s.drawCount + 1 }) ∧
    (s.ctl.isSettle = false → (s.ctl.isReceive = true ∨ s.ctl.isSend = true → s.phase ≠ .none) → arrive s = s)

/-- The model's own (logs 12 and 13): the state that stands for a received command runs it next. -/
def Obligations.LoadedWordIsTheNextCommand : Prop :=
  ∀ (s : State) (nbits w : Nat),
    s.withFetchWord nbits w =
      { s with op := BitVec.ofNat 8 w, ctl := if contextOf s.ctl = .main then .dispatch else .subDispatch } ∧
    step (s.withFetchWord nbits w) =
      andThen (exec (decodeUnit (contextOf s.ctl) (BitVec.ofNat 8 w)) (s.withFetchWord nbits w)) arrive

/-! The commands: what each does, and that it does it in every state. -/

/-- 43_command_dispatcher R159. That the step at the dispatch also runs the entry row of the answer (`arrive`) is the
model's (log 11). -/
def Obligations.ModelNumberAnswersTheModelIdentifier : Prop :=
  ∀ s : State, exec .modelNumber s = .next { s with tx := 0x05, ctl := .txAnswer } ∧
    (s.ctl = .dispatch → s.op = 0x16 → step s = andThen (exec .modelNumber s) arrive)

/-- 43_command_dispatcher R160. That the step at the dispatch also runs the entry row of the answer (`arrive`) is the
model's (log 11). -/
def Obligations.TestAnswersTheAcknowledgement : Prop :=
  ∀ s : State, exec .test s = .next { s with tx := 0x7D, ctl := .txAnswer } ∧
    (s.ctl = .dispatch → s.op = 0x36 → step s = andThen (exec .test s) arrive)

/-- 43_command_dispatcher R158: exactly one `take()`, whose unit is consumed and answered verbatim, or "no key". That
an arrow marker is answered raw is the spec's own choice D11 (log 10). That the step at the dispatch also runs the
entry row of the answer (`arrive`) is the model's (log 11). -/
def Obligations.InstantAnswersWhatItTakes : Prop :=
  ∀ s : State,
    (∀ b, s.takeAt 0 = some b → exec .instant s =
      .next { s with tx := b, ctl := .txAnswer, takes := s.takes.tail, takeCount := s.takeCount + 1 }) ∧
    (s.takeAt 0 = none → exec .instant s =
      .next { s with tx := 0x7B, ctl := .txAnswer, takes := s.takes.tail, takeCount := s.takeCount + 1 }) ∧
    (∀ t, exec .instant s = .next t → ∀ k, t.takeAt k = s.takeAt (k + 1)) ∧
    (s.ctl = .dispatch → s.op = 0x14 → step s = andThen (exec .instant s) arrive)

/-- 43_command_dispatcher R161, 30_encoding R75: no register but `ctl` changes, and the engine is back at L_IDLE after
the next step, nothing having been sent. -/
def Obligations.UnknownOpcodeReturnsToTheTop : Prop :=
  ∀ (s : State) (u : Byte),
    exec (.unknown u) s = .next { s with ctl := .top } ∧
    (u ≠ 0x10 → u ≠ 0x14 → u ≠ 0x16 → u ≠ 0x36 → s.ctl = .dispatch → s.op = u →
      step s = .next { s with ctl := .top } ∧
      ∃ t, steps 2 s = .next t ∧ t.ctl = .idle ∧ hostReads 2 s = [] ∧
        t.takes = s.takes ∧ t.takeCount = s.takeCount)

/-- 44_inquiry_handler R180, the entry. `arrive` does nothing at the poll label. -/
def Obligations.InquiryEntersItsPollLoop : Prop :=
  ∀ s : State, exec .inquiry s = .next { s with tEntry := s.now, ctl := .inqPoll } ∧
    (s.ctl = .dispatch → s.op = 0x10 → step s = andThen (exec .inquiry s) arrive)

/-- 44_inquiry_handler R189: the answer is the translation of `marker`, which is an arrow marker, and no unit is
taken. That the step at the dispatch also runs the entry row of the answer (`arrive`) is the model's (log 11). -/
def Obligations.SubInstantAnswersTheArrowCode : Prop :=
  ∀ s : State,
    exec .subInstant s = .next { s with tx := translateMarker s.cfg s.marker, ctl := .txAnswer } ∧
    (∀ d, s.marker = s.cfg.arrowMarker d .press →
      exec .subInstant s = .next { s with tx := s.cfg.arrowCode d, ctl := .txAnswer }) ∧
    (∀ d, s.marker = s.cfg.arrowMarker d .release →
      exec .subInstant s = .next { s with tx := s.cfg.arrowCode d ||| 0x80, ctl := .txAnswer }) ∧
    (∀ d e, s.marker = s.cfg.arrowMarker d e →
      ((translateMarker s.cfg s.marker).getLsbD 7 = true ↔ e = .release)) ∧
    (EngineInv s → s.ctl = .subDispatch → isMarker s.cfg s.marker = true) ∧
    (s.ctl = .subDispatch → s.op = 0x14 → step s = andThen (exec .subInstant s) arrive)

/-- 44_inquiry_handler R192, 30_encoding R76: no register but `ctl` changes, and the engine is back at L_IDLE after the
next step, nothing having been sent. -/
def Obligations.SubDropReturnsToTheTop : Prop :=
  ∀ (s : State) (u : Byte),
    exec (.subDrop u) s = .next { s with ctl := .top } ∧
    (u ≠ 0x14 → s.ctl = .subDispatch → s.op = u →
      step s = .next { s with ctl := .top } ∧
      ∃ t, steps 2 s = .next t ∧ t.ctl = .idle ∧ hostReads 2 s = [] ∧
        t.takes = s.takes ∧ t.takeCount = s.takeCount)

/-! The Key Translator. -/

/-- 42_key_translator R140: the table, row by row, and the value outside it. -/
def Obligations.TranslateFollowsItsTable : Prop :=
  ∀ P : Params,
    (∀ d, translateMarker P (P.arrowMarker d .press) = P.arrowCode d) ∧
    (∀ d, translateMarker P (P.arrowMarker d .release) = P.arrowCode d ||| 0x80) ∧
    (∀ v, (∀ d e, v ≠ P.arrowMarker d e) → translateMarker P v = 0x7B)

/-- 42_key_translator R143, which the spec derives from R140 and R144. -/
def Obligations.TranslateGivesTheDirectionCode : Prop :=
  ∀ (P : Params) (d : Dir) (e : Edge),
    ((translateMarker P (P.arrowMarker d e)).getLsbD 7 = true ↔ e = .release) ∧
    (∀ k, k < 7 → (translateMarker P (P.arrowMarker d e)).getLsbD k = (P.arrowCode d).getLsbD k) ∧
    (∀ d' e', translateMarker P (P.arrowMarker d e) = translateMarker P (P.arrowMarker d' e') → d = d' ∧ e = e')

/-- 42_key_translator R142: the value outside MARKERS, and that the engine never makes that call. -/
def Obligations.TranslateOutsideTheMarkersIsNoKey : Prop :=
  (∀ (P : Params) (v : Byte), (∀ d e, v ≠ P.arrowMarker d e) → translateMarker P v = 0x7B) ∧
  (∀ s : State, EngineInv s → s.ctl = .subDispatch → ∃ d e, s.marker = s.cfg.arrowMarker d e)

/-- 42_key_translator R141. -/
def Obligations.MarkersAreEightDistinctValues : Prop :=
  ∀ P : Params, (markerSet P).length = 8 ∧ (markerSet P).Nodup ∧
    ∀ v, isMarker P v = true ↔ ∃ d e, v = P.arrowMarker d e

/-! The Line Interface and time. -/

/-- 40_line_interface R101 to R104, 10_state R36. -/
def Obligations.LineOperationsKeepTheirDirection : Prop :=
  ∀ (s : State) (l : Bit),
    setClock l s = { s with clk := l } ∧ (∀ d, setDataDirection d s = { s with dataDir := d }) ∧
    (s.dataDir = .output → setData l s = .next { s with dataOut := l }) ∧
    (s.dataDir = .input → setData l s = .fault .setDataWhileInput) ∧
    (s.dataDir = .output → readData s = .error .readDataWhileOutput) ∧
    (∀ b, s.dataDir = .input → s.hostDrive = some b → readData s = .ok b) ∧
    (s.dataDir = .input → s.hostDrive = none → readData s = .ok true)

/-- 10_state R36, 40_line_interface R109: the level the host sees where the spec gives one. Nothing is said of a
contention, where the spec's own choice D18 leaves the level free (log 14). -/
def Obligations.HostSeesTheDataWire : Prop :=
  ∀ s : State,
    (s.dataDir = .output → s.hostDrive = none → dataSeenByHost s = s.dataOut) ∧
    (∀ b, s.dataDir = .input → s.hostDrive = some b → dataSeenByHost s = b) ∧
    (s.dataDir = .input → s.hostDrive = none → dataSeenByHost s = true)

/-- 40_line_interface R105: a hold changes no line, and its duration lies within the tolerance; for every duration
within it some raw draw makes the hold itself end that long after it began; a tolerance of 0 gives exactly D. The draw
is the spec's own choice D7; its form is the model's (log 8). -/
def Obligations.HoldLastsWithinItsTolerance : Prop :=
  ∀ (s : State) (D : Nat),
    (∃ d, hold D s = { s with tHoldEnd := s.now + d, draws := s.draws.tail, drawCount := s.drawCount + 1 } ∧
      D * (s.cfg.tolDen - s.cfg.tolNum) ≤ d * s.cfg.tolDen ∧
      d * s.cfg.tolDen ≤ D * (s.cfg.tolDen + s.cfg.tolNum) ∧ (s.cfg.tolNum = 0 → d = D)) ∧
    (∀ d, D * (s.cfg.tolDen - s.cfg.tolNum) ≤ d * s.cfg.tolDen →
      d * s.cfg.tolDen ≤ D * (s.cfg.tolDen + s.cfg.tolNum) →
      ∃ raw, (hold D { s with draws := raw :: s.draws.tail }).tHoldEnd = s.now + d)

/-- 40_line_interface R106, 00_scope R12: time never goes back, and no step changes a parameter. Unbounded time is the
spec's own choice D15 (log 10). -/
def Obligations.TimeNeverGoesBack : Prop :=
  ∀ s t : State, step s = .next t → s.now ≤ t.now ∧ t.cfg = s.cfg

/-! The labels. -/

/-- 43_command_dispatcher R150: Data released, then the wait for the host. The host's move before it (`tick`: the level,
its time and the count of moves) is the model's (logs 5 and 19). -/
def Obligations.TopReleasesData : Prop :=
  ∀ s : State, s.ctl = .top → step s = .next { tick s with dataDir := .input, ctl := .idle }

/-- 40_line_interface R107, 60_exceptions R203: a wait label samples once a step; it ends on its level, and otherwise
a poll period passes and nothing else changes. Level sensitivity and the poll period are the spec's own choices D21 and
D8; one host move a step, and its time, is the model's (`tick`, logs 5 and 19), and so is that the step which ends the
wait at an idle label begins the settle hold (`arrive`, logs 6 and 11). -/
def Obligations.WaitLabelsPollTheirLevel : Prop :=
  ∀ s : State, s.ctl.isWait = true → s.dataDir = .input →
    (levelOf (s.hostAt 0) = awaited s.ctl → step s = .next (arrive { tick s with ctl := afterWait s.ctl })) ∧
    (levelOf (s.hostAt 0) ≠ awaited s.ctl →
      ∃ p, 0 < p ∧ p ≤ s.cfg.pollMaxUs ∧
        step s = .next { tick s with
          now := s.now + p, draws := s.draws.tail, drawCount := s.drawCount + 1 })

/-- 20_memory R60, 40_line_interface R107: a host move puts the next level of the host's script on Data; if that is a
change, it happened at some time since the last step that let the host move, and every such time is given by some draw.
The fields that hold the times and the draws are the model's own (log 19). -/
def Obligations.HostMovesAtAnyTimeSinceTheLastStep : Prop :=
  ∀ s : State, s.lastMove ≤ s.now →
    (∃ x, tick s = { s with
        hostDrive := s.hostAt 0, hostSince := x, lastMove := s.now, hostMoves := s.hostMoves.tail,
        moveDraws := s.moveDraws.tail, moveCount := s.moveCount + 1 } ∧
      (s.hostAt 0 = s.hostDrive → x = s.hostSince) ∧
      (s.hostAt 0 ≠ s.hostDrive → s.lastMove ≤ x ∧ x ≤ s.now)) ∧
    (∀ x, s.lastMove ≤ x → x ≤ s.now → s.hostAt 0 ≠ s.hostDrive →
      ∃ raw, (tick { s with moveDraws := raw :: s.moveDraws.tail }).hostSince = x)

/-- 40_line_interface R107, its example: a wait ends no later than POLL_MAX_US after the host gave the level; and every
such lag occurs: after a sample that reads the other level, the next one may find a change of any age up to
POLL_MAX_US. That the time of a change is kept in State is the model's (log 19); the poll period is the spec's own
choice D8. -/
def Obligations.WaitEndsWithinAPollPeriodOfTheChange : Prop :=
  (∀ s : State, EngineInv s → s.ctl.isWait = true → wireData s ≠ awaited s.ctl →
    levelOf (s.hostAt 0) = awaited s.ctl →
    ∃ t, step s = .next t ∧ t.ctl = afterWait s.ctl ∧ t.now = s.now ∧
      s.lastMove ≤ t.hostSince ∧ t.hostSince ≤ t.now ∧ t.now ≤ t.hostSince + s.cfg.pollMaxUs) ∧
  (∀ (s : State) (lag : Nat), s.ctl.isWait = true → s.dataDir = .input → lag ≤ s.cfg.pollMaxUs →
    levelOf (s.hostAt 0) ≠ awaited s.ctl → levelOf (s.hostAt 1) = awaited s.ctl →
    ∃ draws moveDraws t, steps 2 { s with draws := draws, moveDraws := moveDraws } = .next t ∧
      t.ctl = afterWait s.ctl ∧ t.now = t.hostSince + lag)

/-- 60_exceptions R203: a host that never gives the level keeps the engine at its wait, with nothing taken and the
lines as they were. One host move a step is the model's (log 5). -/
def Obligations.BlockedWaitNeverEnds : Prop :=
  ∀ (n : Nat) (s : State), s.ctl.isWait = true → s.dataDir = .input →
    (∀ k, k < n → levelOf (s.hostAt k) ≠ awaited s.ctl) →
    ∃ t, steps n s = .next t ∧ t.ctl = s.ctl ∧ t.phase = s.phase ∧ t.op = s.op ∧ t.tx = s.tx ∧
      t.marker = s.marker ∧ t.clk = s.clk ∧ t.dataDir = .input ∧ t.dataOut = s.dataOut ∧
      t.takes = s.takes ∧ t.takeCount = s.takeCount

/-- 43_command_dispatcher R151, R152: the hold of SETTLE_US begins at the sample that reads Data low, and when it has
ended Clock falls for the first bit; the lines do not change before that. That the hold ends in a step of its own,
which also runs the entry row of the receive, is the model's (logs 6 and 11). The time from the host's own change of
Data to the sample is StartSignalToFirstClockFall's; here the hold is measured from the sample. -/
def Obligations.SettleHoldsBeforeReceiving : Prop :=
  ∀ s : State, s.ctl = .idle → s.phase = .none → s.dataDir = .input → levelOf (s.hostAt 0) = false →
    ∃ t u, step s = .next t ∧ step t = .next u ∧ t.ctl = .settle ∧ t.now = s.now ∧
      HoldsFor t s.cfg.settleUs ∧
      t.phase = .none ∧ t.clk = s.clk ∧ t.dataDir = .input ∧ t.dataOut = s.dataOut ∧
      u.ctl = .rx ∧ u.now = t.tHoldEnd ∧ BeginsReceive u ∧ u.clk = false ∧ u.dataOut = s.dataOut

/-- 44_inquiry_handler R184, R185: so does the sub-exchange's, which may be a hold of 0 (the spec's own choice D5; that
the hold ends in a step of its own, which also runs the entry row of the receive, is the model's, logs 6 and 11). It is
measured from the sample, as above. -/
def Obligations.SubSettleHoldsBeforeReceiving : Prop :=
  ∀ s : State, s.ctl = .subIdle → s.phase = .none → s.dataDir = .input → levelOf (s.hostAt 0) = false →
    ∃ t u, step s = .next t ∧ step t = .next u ∧ t.ctl = .subSettle ∧ t.now = s.now ∧
      HoldsFor t s.cfg.subSettleUs ∧ (s.cfg.subSettleUs = 0 → u.now = s.now) ∧
      t.phase = .none ∧ t.clk = s.clk ∧ t.dataDir = .input ∧ t.dataOut = s.dataOut ∧
      u.ctl = .subRx ∧ u.now = t.tHoldEnd ∧ BeginsReceive u ∧ u.clk = false ∧ u.dataOut = s.dataOut ∧
      u.marker = s.marker

/-- 70_reset_and_hazards R243 (its row of the start signal), 43_command_dispatcher R151, R152, 44_inquiry_handler R184,
R185: from the host's start signal to the first Clock fall, the settle hold and up to one poll period pass. That the
time of the start signal is kept in State is the model's (log 19), and so is the count of steps (log 6). -/
def Obligations.StartSignalToFirstClockFall : Prop :=
  ∀ s : State, EngineInv s → wireData s = true → levelOf (s.hostAt 0) = false →
    (s.ctl = .idle → ∃ t u, step s = .next t ∧ step t = .next u ∧ t.clk = true ∧ u.clk = false ∧
      t.hostSince + holdMin s.cfg s.cfg.settleUs ≤ u.now ∧
      u.now ≤ t.hostSince + s.cfg.pollMaxUs + holdMax s.cfg s.cfg.settleUs) ∧
    (s.ctl = .subIdle → ∃ t u, step s = .next t ∧ step t = .next u ∧ t.clk = true ∧ u.clk = false ∧
      t.hostSince + holdMin s.cfg s.cfg.subSettleUs ≤ u.now ∧
      u.now ≤ t.hostSince + s.cfg.pollMaxUs + holdMax s.cfg s.cfg.subSettleUs)

/-- 44_inquiry_handler R180 to R182, 60_exceptions R205: the four things a poll iteration does. That `take()` comes
before the deadline test is the spec's own choice D14 (log 10). That the step of a poll which answers also runs the
entry row of the answer's frame (`arrive`: Data to output, `phase`, `bitcnt`, the hold) is the model's (log 11), and so
is the host's move before it (`tick`, logs 5 and 19). -/
def Obligations.InquiryPollTakesBeforeTheDeadline : Prop :=
  ∀ s : State, s.ctl = .inqPoll →
    (∀ b, s.takeAt 0 = some b → isMarker s.cfg b = false →
      step s = .next (arrive { taken (tick s) with tx := b, ctl := .txAnswer })) ∧
    (∀ b, s.takeAt 0 = some b → isMarker s.cfg b = true →
      step s = .next (arrive { taken (tick s) with marker := b, tx := 0x79, ctl := .txKeypad })) ∧
    (s.takeAt 0 = none → 250000 ≤ s.now - s.tEntry →
      step s = .next (arrive { taken (tick s) with tx := 0x7B, ctl := .txAnswer })) ∧
    (s.takeAt 0 = none → s.now - s.tEntry < 250000 →
      ∃ p, 0 < p ∧ p ≤ s.cfg.pollMaxUs ∧
        step s = .next { taken (tick s) with
          now := s.now + p, draws := s.draws.tail, drawCount := s.drawCount + 1 })

/-! Frames. -/

/-- 41_bit_transceiver R130, R121, R122: what each row of a receive does after the entry row, that it runs when the
hold before it has ended, and which parameter bounds the hold it begins. That a row is one step, after one host move
(`tick`), is the model's (logs 5, 6 and 19). -/
def Obligations.ReceiveRowsHoldTheirIntervals : Prop :=
  ∀ s : State, s.ctl.isReceive = true →
    (s.phase = .rxLow →
      ∃ d, holdMin s.cfg s.cfg.rxSampleUs ≤ d ∧ d ≤ holdMax s.cfg s.cfg.rxSampleUs ∧
        step s = .next { tick (endHold s) with
          now := max s.now s.tHoldEnd, clk := true, phase := .rxHigh, tHoldEnd := max s.now s.tHoldEnd + d,
          draws := s.draws.tail, drawCount := s.drawCount + 1 }) ∧
    (s.phase = .rxHigh → s.dataDir = .input →
      ∃ d, holdMin s.cfg s.cfg.rxPostUs ≤ d ∧ d ≤ holdMax s.cfg s.cfg.rxPostUs ∧
        step s = .next { tick (endHold s) with
          now := max s.now s.tHoldEnd, acc := shiftIn s.acc (levelOf (s.hostAt 0)), bitcnt := s.bitcnt + 1,
          phase := .rxPost, tHoldEnd := max s.now s.tHoldEnd + d,
          draws := s.draws.tail, drawCount := s.drawCount + 1 }) ∧
    (s.phase = .rxPost → s.bitcnt < 8 →
      ∃ d, holdMin s.cfg s.cfg.rxLowUs ≤ d ∧ d ≤ holdMax s.cfg s.cfg.rxLowUs ∧
        step s = .next { tick (endHold s) with
          now := max s.now s.tHoldEnd, clk := false, phase := .rxLow, tHoldEnd := max s.now s.tHoldEnd + d,
          draws := s.draws.tail, drawCount := s.drawCount + 1 }) ∧
    (s.phase = .rxPost → s.bitcnt = 8 →
      step s = .next { tick (endHold s) with
        now := max s.now s.tHoldEnd, op := s.acc, phase := .none, ctl := afterReceive s.ctl })

/-- 41_bit_transceiver R131, R124 (corner case b), R126: what each row of a send does after the entry row, that it runs
when the hold before it has ended, and which parameter bounds the hold it begins. That a row is one step, after one
host move (`tick`), is the model's (logs 5, 6 and 19). -/
def Obligations.SendRowsHoldTheirIntervals : Prop :=
  ∀ s : State, s.ctl.isSend = true →
    (s.phase = .txSetup →
      ∃ d, holdMin s.cfg s.cfg.txLowUs ≤ d ∧ d ≤ holdMax s.cfg s.cfg.txLowUs ∧
        step s = .next { tick (endHold s) with
          now := max s.now s.tHoldEnd, clk := false, phase := .txLow, tHoldEnd := max s.now s.tHoldEnd + d,
          draws := s.draws.tail, drawCount := s.drawCount + 1 }) ∧
    (s.phase = .txLow →
      ∃ d, holdMin s.cfg s.cfg.txHighUs ≤ d ∧ d ≤ holdMax s.cfg s.cfg.txHighUs ∧
        step s = .next { tick (endHold s) with
          now := max s.now s.tHoldEnd, clk := true, phase := .txHigh, tHoldEnd := max s.now s.tHoldEnd + d,
          draws := s.draws.tail, drawCount := s.drawCount + 1 }) ∧
    (s.phase = .txHigh → 1 < s.bitcnt → s.dataDir = .output →
      ∃ d, holdMin s.cfg s.cfg.txSetupUs ≤ d ∧ d ≤ holdMax s.cfg s.cfg.txSetupUs ∧
        step s = .next { tick (endHold s) with
          now := max s.now s.tHoldEnd, bitcnt := s.bitcnt - 1, dataOut := s.tx.getLsbD (s.bitcnt - 2),
          phase := .txSetup, tHoldEnd := max s.now s.tHoldEnd + d,
          draws := s.draws.tail, drawCount := s.drawCount + 1 }) ∧
    (s.phase = .txHigh → s.bitcnt = 1 →
      step s = .next { tick (endHold s) with
        now := max s.now s.tHoldEnd, bitcnt := 0, dataDir := .input, phase := .none, ctl := afterSend s.ctl })

/-- 41_bit_transceiver R120, R130, 20_memory R52: after its entry row a receive runs its 24 rows, whatever the host
does; the bit sampled in period k lands in bit 7-k, and nothing but `op`, `acc` and the transceiver's position is left
changed. That a row is one step, after one host move, is the model's (logs 5 and 6). -/
def Obligations.ReceiveFrameCollectsEightBits : Prop :=
  ∀ s : State, BeginsReceive s →
    ∃ t, steps 24 s = .next t ∧ t.ctl = afterReceive s.ctl ∧ t.phase = .none ∧
      (∀ k, k < 8 → t.op.getLsbD (7 - k) = levelOf (s.hostAt (3 * k + 1))) ∧ t.acc = t.op ∧
      t.clk = true ∧ t.dataDir = .input ∧ t.dataOut = s.dataOut ∧ t.tx = s.tx ∧ t.marker = s.marker ∧
      t.tEntry = s.tEntry ∧ t.takes = s.takes ∧ t.takeCount = s.takeCount ∧ t.cfg = s.cfg

/-- 41_bit_transceiver R124, R125, R131, 20_memory R51: after its entry row a send runs its 24 rows, whatever the host
does; a host that does not drive reads the bits of `tx` at the eight rising edges, bit 7 first; Data is released at the
end. That a row is one step, after one host move, is the model's (logs 5 and 6). -/
def Obligations.SendFrameShowsEightBits : Prop :=
  ∀ s : State, BeginsSend s →
    ∃ t, steps 24 s = .next t ∧ t.ctl = afterSend s.ctl ∧ t.phase = .none ∧
      (HostListens 0 s → hostReads 24 s = msbFirst s.tx) ∧ (hostReads 24 s).length = 8 ∧
      t.clk = true ∧ t.dataDir = .input ∧ t.acc = s.acc ∧ t.op = s.op ∧ t.tx = s.tx ∧
      t.marker = s.marker ∧ t.tEntry = s.tEntry ∧ t.takes = s.takes ∧ t.takeCount = s.takeCount ∧ t.cfg = s.cfg

/-- 41_bit_transceiver R128, which the spec derives from R120 and R124: a receiver whose samples are what a sender
showed receives the unit sent. -/
def Obligations.ReceivingASentFrameGivesItsUnit : Prop :=
  ∀ s r : State, BeginsSend s → HostListens 0 s → BeginsReceive r →
    (∀ k, k < 8 → (hostReads 24 s)[k]? = some (levelOf (r.hostAt (3 * k + 1)))) →
    ∃ t, steps 24 r = .next t ∧ t.op = s.tx

/-- 41_bit_transceiver R122: the duration of a receive frame, from its entry row to its last. Which interval stands in
which row is ReceiveRowsHoldTheirIntervals. -/
def Obligations.ReceiveFrameDuration : Prop :=
  ∀ s : State, BeginsReceive s → ∃ t, steps 24 s = .next t ∧
    (s.now + 8 * (holdMin s.cfg s.cfg.rxLowUs + holdMin s.cfg s.cfg.rxSampleUs +
        holdMin s.cfg s.cfg.rxPostUs) ≤ t.now) ∧
    (t.now ≤ s.now + 8 * (holdMax s.cfg s.cfg.rxLowUs + holdMax s.cfg s.cfg.rxSampleUs +
        holdMax s.cfg s.cfg.rxPostUs)) ∧
    (s.cfg.tolNum = 0 →
      t.now = s.now + 8 * (s.cfg.rxLowUs + s.cfg.rxSampleUs + s.cfg.rxPostUs))

/-- 41_bit_transceiver R126: the duration of a send frame, from its entry row to its last. Which interval stands in
which row is SendRowsHoldTheirIntervals. -/
def Obligations.SendFrameDuration : Prop :=
  ∀ s : State, BeginsSend s → ∃ t, steps 24 s = .next t ∧
    (s.now + 8 * (holdMin s.cfg s.cfg.txSetupUs + holdMin s.cfg s.cfg.txLowUs +
        holdMin s.cfg s.cfg.txHighUs) ≤ t.now) ∧
    (t.now ≤ s.now + 8 * (holdMax s.cfg s.cfg.txSetupUs + holdMax s.cfg s.cfg.txLowUs +
        holdMax s.cfg s.cfg.txHighUs)) ∧
    (s.cfg.tolNum = 0 →
      t.now = s.now + 8 * (s.cfg.txSetupUs + s.cfg.txLowUs + s.cfg.txHighUs))

/-! The invariant, and what follows from it. -/

/-- 10_state R43, 70_reset_and_hazards R230: the values the spec gives (Clock high is its own choice D3), and the first
step. -/
def Obligations.ResetStartsAtTheTop : Prop :=
  State.reset.ctl = .top ∧ State.reset.phase = .none ∧ State.reset.clk = true ∧ State.reset.dataDir = .input ∧
  ∃ t, step State.reset = .next t ∧ Quiescent t

/-- The invariant holds at reset. Where it reads a register that R43 leaves open it rests on log 1's value, and its
`HostTimeFits` (`hostSince`, `lastMove` and `now`, all 0 at reset) on log 3's; both are the model's choices. -/
def Obligations.ResetMeetsInv : Prop := EngineInv State.reset

/-- Every step keeps the invariant; its parts are from 10_state R23, 40_line_interface R105 and R107, 41_bit_transceiver
R124 and R127, 43_command_dispatcher R164, 44_inquiry_handler R181, R183 and R189. That `PhaseFits` (R23) holds
between every two steps rests on the model's log 11; `HostTimeFits` is about the model's own fields for the time of the
host's last change (log 19). -/
def Obligations.StepKeepsInv : Prop := ∀ s t : State, EngineInv s → step s = .next t → EngineInv t

/-- 60_exceptions R200, R201, 70_reset_and_hazards R231: under the invariant no step faults or refuses. -/
def Obligations.NoModelFaultUnderInv : Prop := ∀ s : State, EngineInv s → ∃ t, step s = .next t

/-- 60_exceptions R218: the engine never halts. The invariant it keeps rests on the model's logs 11 (`PhaseFits`) and 19
(`HostTimeFits`). -/
def Obligations.EngineNeverHalts : Prop :=
  ∀ s : State, EngineInv s → ∀ n : Nat, ∃ t, steps n s = .next t ∧ EngineInv t

/-- 10_state R23: `phase` is NONE exactly when `ctl` is not one of the four transceiver labels, a receive phase at the
receive labels and a send phase at the send labels; `bitcnt` is in 0..8; and every step keeps this. That it holds
between every two steps rests on the model's log 11. -/
def Obligations.PhaseIsNoneExactlyOutsideAFrame : Prop :=
  (∀ s : State, EngineInv s →
    (s.phase = .none ↔ s.ctl ≠ .rx ∧ s.ctl ≠ .subRx ∧ s.ctl ≠ .txAnswer ∧ s.ctl ≠ .txKeypad) ∧
    (s.phase.isReceive = true ↔ s.ctl = .rx ∨ s.ctl = .subRx) ∧
    (s.phase.isSend = true ↔ s.ctl = .txAnswer ∨ s.ctl = .txKeypad) ∧ s.bitcnt ≤ 8) ∧
  (∀ s t : State, PhaseFits s → step s = .next t → PhaseFits t)

/-- 43_command_dispatcher R164, which the spec derives from R120, R124 and its own choice D3 of Clock's reset level.
That the first fall belongs to the step that reaches the label is the model's (log 11). -/
def Obligations.ClockFallsOnlyInsideAFrame : Prop :=
  (∀ s : State, EngineInv s → s.ctl.isReceive = false → s.ctl.isSend = false → s.clk = true) ∧
  (∀ s t : State, EngineInv s → step s = .next t → s.clk = true → t.clk = false →
    t.ctl.isReceive = true ∨ t.ctl.isSend = true)

/-- 41_bit_transceiver R127, 70_reset_and_hazards R236: Data is an output only while the engine transmits, from the
first row of a send to its last, and an input at every waiting label. That the first row sets the direction and the
level in one step is the spec's own choice D16; that this is the step that reaches the label is the model's (log 11). -/
def Obligations.DataIsDrivenOnlyWhileSending : Prop :=
  (∀ s : State, EngineInv s → s.dataDir = .output → s.ctl.isSend = true ∧ s.dataOut = txBit s.tx s.bitcnt) ∧
  (∀ s : State, EngineInv s → s.ctl.isWait = true → s.dataDir = .input) ∧
  (∀ s t : State, step s = .next t → s.dataDir = .input → t.dataDir = .output →
    s.phase = .none ∧ t.ctl.isSend = true ∧ t.phase = .txSetup ∧ t.dataOut = t.tx.getLsbD 7)

/-- 41_bit_transceiver R130, R131, and the model's own (log 9): a label with a phase of no row of its own faults. -/
def Obligations.MisplacedPhaseFaults : Prop :=
  ∀ s : State,
    (s.ctl.isReceive = true → s.phase.isSend = true → step s = .fault .badLabel) ∧
    (s.ctl.isSend = true → s.phase.isReceive = true → step s = .fault .badLabel)

/-! The whole machine. -/

/-- 10_state R22: a label changes only along the edges that the labels' rules give. -/
def Obligations.ControlFollowsTheLabelGraph : Prop :=
  ∀ s t : State, step s = .next t → t.ctl = s.ctl ∨ (s.ctl, t.ctl) ∈ labelGraph

/-- 44_inquiry_handler R194, which the spec derives from R188: the sub context is entered only by an arrow marker and
left only at its dispatch, so no second level is ever entered. -/
def Obligations.SubContextIsOneLevel : Prop :=
  ∀ s t : State, step s = .next t →
    (contextOf s.ctl = .main → contextOf t.ctl = .sub →
      s.ctl = .inqPoll ∧ t.ctl = .txKeypad ∧ s.takeAt 0 = some t.marker ∧ isMarker s.cfg t.marker = true) ∧
    (contextOf s.ctl = .sub → contextOf t.ctl = .main →
      s.ctl = .subDispatch ∧ (t.ctl = .txAnswer ∨ t.ctl = .top)) ∧
    (contextOf s.ctl = .sub → contextOf t.ctl = .sub → t.marker = s.marker)

/-- 20_memory R58: only Instant in the main context and an Inquiry poll call `take()`, each exactly once; ModelNumber
and Test answer whatever the key source holds. -/
def Obligations.OnlyInstantAndInquiryTake : Prop :=
  ∀ s t : State, step s = .next t →
    (if (s.ctl = .dispatch ∧ s.op = 0x14) ∨ s.ctl = .inqPoll then
      t.takes = s.takes.tail ∧ t.takeCount = s.takeCount + 1
    else t.takes = s.takes ∧ t.takeCount = s.takeCount) ∧
    (s.ctl = .dispatch → s.op = 0x16 → t.tx = 0x05) ∧ (s.ctl = .dispatch → s.op = 0x36 → t.tx = 0x7D)

/-- 30_encoding R79, 43_command_dispatcher R163: a send label is entered only from the rules that answer, each with
its own value. -/
def Obligations.AnswersComeFromTheirRules : Prop :=
  ∀ s t : State, step s = .next t → s.ctl.isSend = false → t.ctl.isSend = true →
    (s.ctl = .dispatch ∧ s.op = 0x14 ∧ t.ctl = .txAnswer ∧ s.takeAt 0 = some t.tx) ∨
    (s.ctl = .dispatch ∧ s.op = 0x14 ∧ t.ctl = .txAnswer ∧ s.takeAt 0 = none ∧ t.tx = 0x7B) ∨
    (s.ctl = .dispatch ∧ s.op = 0x16 ∧ t.ctl = .txAnswer ∧ t.tx = 0x05) ∨
    (s.ctl = .dispatch ∧ s.op = 0x36 ∧ t.ctl = .txAnswer ∧ t.tx = 0x7D) ∨
    (s.ctl = .inqPoll ∧ t.ctl = .txAnswer ∧ s.takeAt 0 = some t.tx ∧ isMarker s.cfg t.tx = false) ∨
    (s.ctl = .inqPoll ∧ t.ctl = .txKeypad ∧ s.takeAt 0 = some t.marker ∧ isMarker s.cfg t.marker = true ∧
      t.tx = 0x79) ∨
    (s.ctl = .inqPoll ∧ t.ctl = .txAnswer ∧ s.takeAt 0 = none ∧ 250000 ≤ t.now - s.tEntry ∧ t.tx = 0x7B) ∨
    (s.ctl = .subDispatch ∧ s.op = 0x14 ∧ t.ctl = .txAnswer ∧ t.tx = translateMarker s.cfg s.marker)

/-- 10_state R23 to R33: where each register of R21 other than `ctl` may change. A transceiver label's entry row and a
settle label's hold belong to the step that reaches the label, which is the model's (logs 6 and 11). -/
def Obligations.RegistersChangeOnlyAtTheirRules : Prop :=
  ∀ s t : State, step s = .next t →
    (t.phase ≠ s.phase →
      s.ctl.isReceive = true ∨ s.ctl.isSend = true ∨ t.ctl.isReceive = true ∨ t.ctl.isSend = true) ∧
    (t.bitcnt ≠ s.bitcnt →
      s.ctl.isReceive = true ∨ s.ctl.isSend = true ∨ t.ctl.isReceive = true ∨ t.ctl.isSend = true) ∧
    (t.acc ≠ s.acc → t.ctl.isReceive = true) ∧
    (t.op ≠ s.op → s.ctl.isReceive = true ∧ s.phase = .rxPost ∧ s.bitcnt = 8 ∧ t.op = s.acc) ∧
    (t.tx ≠ s.tx → t.ctl.isSend = true ∧ (s.ctl = .dispatch ∨ s.ctl = .inqPoll ∨ s.ctl = .subDispatch)) ∧
    (t.marker ≠ s.marker → s.ctl = .inqPoll ∧ t.ctl = .txKeypad) ∧
    (t.tEntry ≠ s.tEntry → s.ctl = .dispatch ∧ s.op = 0x10 ∧ t.tEntry = s.now) ∧
    (t.tHoldEnd ≠ s.tHoldEnd → t.ctl.isReceive = true ∨ t.ctl.isSend = true ∨ t.ctl.isSettle = true) ∧
    (t.clk ≠ s.clk → t.ctl.isReceive = true ∨ t.ctl.isSend = true) ∧
    (t.dataDir ≠ s.dataDir → s.ctl.isSend = true ∨ t.ctl.isSend = true ∨ s.ctl = .top) ∧
    (t.dataOut ≠ s.dataOut → t.ctl.isSend = true)

/-- 70_reset_and_hazards R231, R238, 10_state R27, R28: registers that will be written before they are read change
nothing the engine does and nothing the host reads, however long the run. At reset all eight registers of log 1 are
such, so no value of log 1 is ever seen: any other values of them give the same run. -/
def Obligations.DeadRegistersNeverMatter : Prop :=
  (∀ (n : Nat) (s t : State), SameLive s t →
    SameLiveOutcome (steps n s) (steps n t) ∧ hostReads n s = hostReads n t) ∧
  (∀ (bitcnt tEntry tHoldEnd : Nat) (acc op tx marker : Byte) (dataOut : Bit),
    SameLive State.reset { State.reset with
      bitcnt := bitcnt, acc := acc, op := op, tx := tx, marker := marker, tEntry := tEntry,
      tHoldEnd := tHoldEnd, dataOut := dataOut })

/-! Inquiry. -/

/-- 60_exceptions R203: the poll loop always ends, within one poll for each µs of the window and one more. That a poll
takes at least one µs is the spec's own choice D8. -/
def Obligations.InquiryLoopAlwaysEnds : Prop :=
  ∀ s : State, EngineInv s → s.ctl = .inqPoll →
    ∃ n t, n ≤ 250001 ∧ steps n s = .next t ∧ t.ctl.isSend = true

/-- 44_inquiry_handler R181 (the bound after the deadline: the spec's own choices D8 and D14): a poll that found
nothing and ends the loop answers "no key", no earlier than the deadline and less than one poll period after it. -/
def Obligations.NoKeyAnswerRespectsTheDeadline : Prop :=
  ∀ s t : State, EngineInv s → s.ctl = .inqPoll → s.takeAt 0 = none → step s = .next t →
    t.ctl ≠ .inqPoll →
    t.ctl = .txAnswer ∧ t.tx = 0x7B ∧ t.tEntry + 250000 ≤ t.now ∧ t.now < t.tEntry + 250000 + t.cfg.pollMaxUs

/-- 44_inquiry_handler R182, R183, R190: an Inquiry whose poll finds a key answers it verbatim and is over, or
announces the keypad and waits for the sub-exchange. The counts of steps and of host moves are the model's (logs 5
and 6). -/
def Obligations.InquiryAnswersTheKeyItTakes : Prop :=
  ∀ (s : State) (b : Byte), s.ctl = .inqPoll → s.phase = .none → s.takeAt 0 = some b → HostListens 1 s →
    (isMarker s.cfg b = false →
      ∃ t, steps 26 s = .next t ∧ Quiescent t ∧ hostReads 26 s = msbFirst b ∧ t.takeCount = s.takeCount + 1) ∧
    (isMarker s.cfg b = true →
      ∃ t, steps 25 s = .next t ∧ t.ctl = .subIdle ∧ t.phase = .none ∧ t.dataDir = .input ∧ t.clk = true ∧
        t.marker = b ∧ hostReads 25 s = msbFirst 0x79 ∧ t.takeCount = s.takeCount + 1)

/-! Transactions. The counts of steps and of host moves in these statements are the model's (logs 5 and 6). -/

/-- 43_command_dispatcher R151 to R154, 60_exceptions R215 (H1 to H3): from quiescent, a host that does its duties
delivers its command to the dispatcher, and the engine has sent and taken nothing. -/
def Obligations.HostDeliversItsCommand : Prop :=
  ∀ (s : State) (c : Byte), Quiescent s → HostSends c s →
    ∃ t, steps receptionSteps s = .next t ∧ t.ctl = .dispatch ∧ t.op = c ∧ t.phase = .none ∧
      t.dataDir = .input ∧ t.clk = true ∧ hostReads receptionSteps s = [] ∧
      t.takes = s.takes ∧ t.takeCount = s.takeCount ∧ (∀ k, t.hostAt k = s.hostAt (receptionSteps + k))

/-- 43_command_dispatcher R156, R165: the rows of the transaction table with an answer, from quiescent to
quiescent. -/
def Obligations.MainTransactionAnswers : Prop :=
  ∀ (s : State) (c a : Byte), Quiescent s → HostSends c s → HostListens receptionSteps s →
    ((c = 0x14 ∧ s.takeAt 0 = some a) ∨ (c = 0x14 ∧ s.takeAt 0 = none ∧ a = 0x7B) ∨
      (c = 0x16 ∧ a = 0x05) ∨ (c = 0x36 ∧ a = 0x7D)) →
    ∃ t, steps (receptionSteps + 26) s = .next t ∧ Quiescent t ∧
      hostReads (receptionSteps + 26) s = msbFirst a ∧
      t.takeCount = s.takeCount + (if c = 0x14 then 1 else 0)

/-- 43_command_dispatcher R161, R165: the silent row of the transaction table, from quiescent to quiescent. -/
def Obligations.UnknownTransactionIsSilent : Prop :=
  ∀ (s : State) (c : Byte), Quiescent s → HostSends c s →
    c ≠ 0x10 → c ≠ 0x14 → c ≠ 0x16 → c ≠ 0x36 →
    ∃ t, steps (receptionSteps + 2) s = .next t ∧ Quiescent t ∧ hostReads (receptionSteps + 2) s = [] ∧
      t.takes = s.takes ∧ t.takeCount = s.takeCount

/-- 44_inquiry_handler R184 to R192, R190: the sub-exchange answers an Instant with the translated arrow, is silent on
every other command, takes nothing, and ends quiescent. -/
def Obligations.SubExchangeAnswersOnlyInstant : Prop :=
  ∀ (s : State) (c : Byte), s.ctl = .subIdle → s.phase = .none → s.dataDir = .input → HostSends c s →
    (c = 0x14 → HostListens receptionSteps s →
      ∃ t, steps (receptionSteps + 26) s = .next t ∧ Quiescent t ∧
        hostReads (receptionSteps + 26) s = msbFirst (translateMarker s.cfg s.marker) ∧
        t.takes = s.takes ∧ t.takeCount = s.takeCount) ∧
    (c ≠ 0x14 →
      ∃ t, steps (receptionSteps + 2) s = .next t ∧ Quiescent t ∧ hostReads (receptionSteps + 2) s = [] ∧
        t.takes = s.takes ∧ t.takeCount = s.takeCount)
end

