-- ==== Sys2Proof/Laws/Decode.lean ====
section
/-! SUPPORT. What the decoder can answer in each context. -/

namespace Sys2Proof

theorem decodeMain_inquiry : decodeMain 0x10 = .inquiry := rfl

theorem decodeMain_instant : decodeMain 0x14 = .instant := rfl

theorem decodeMain_modelNumber : decodeMain 0x16 = .modelNumber := rfl

theorem decodeMain_test : decodeMain 0x36 = .test := rfl

theorem decodeMain_unknown {u : Byte} (h₁ : u ≠ 0x10) (h₂ : u ≠ 0x14) (h₃ : u ≠ 0x16) (h₄ : u ≠ 0x36) :
    decodeMain u = .unknown u := by
  rw [decodeMain, if_neg (show ¬u = opInquiry from h₁), if_neg (show ¬u = opInstant from h₂),
    if_neg (show ¬u = opModel from h₃), if_neg (show ¬u = opTest from h₄)]

theorem decodeSub_instant : decodeSub 0x14 = .subInstant := rfl

theorem decodeSub_drop {u : Byte} (h : u ≠ 0x14) : decodeSub u = .subDrop u := by
  rw [decodeSub, if_neg (show ¬u = opInstant from h)]

/-- The rows of the main-context table (30_encoding R74, R75). -/
theorem decodeMain_cases (u : Byte) :
    (u = 0x10 ∧ decodeMain u = .inquiry) ∨ (u = 0x14 ∧ decodeMain u = .instant) ∨
    (u = 0x16 ∧ decodeMain u = .modelNumber) ∨ (u = 0x36 ∧ decodeMain u = .test) ∨
    (u ≠ 0x10 ∧ u ≠ 0x14 ∧ u ≠ 0x16 ∧ u ≠ 0x36 ∧ decodeMain u = .unknown u) := by
  by_cases h₁ : u = 0x10
  · exact .inl ⟨h₁, h₁ ▸ rfl⟩
  by_cases h₂ : u = 0x14
  · exact .inr (.inl ⟨h₂, h₂ ▸ rfl⟩)
  by_cases h₃ : u = 0x16
  · exact .inr (.inr (.inl ⟨h₃, h₃ ▸ rfl⟩))
  by_cases h₄ : u = 0x36
  · exact .inr (.inr (.inr (.inl ⟨h₄, h₄ ▸ rfl⟩)))
  exact .inr (.inr (.inr (.inr ⟨h₁, h₂, h₃, h₄, decodeMain_unknown h₁ h₂ h₃ h₄⟩)))

/-- The rows of the sub-context table (30_encoding R76). -/
theorem decodeSub_cases (u : Byte) :
    (u = 0x14 ∧ decodeSub u = .subInstant) ∨ (u ≠ 0x14 ∧ decodeSub u = .subDrop u) := by
  by_cases h : u = 0x14
  · exact .inl ⟨h, h ▸ rfl⟩
  · exact .inr ⟨h, decodeSub_drop h⟩

end Sys2Proof
end

