-- ==== Sys2Proof/Laws/State.lean ====
section
/-! SUPPORT. One lemma per field for every update of State: what it writes, and that it leaves the rest. -/

namespace Sys2Proof.Machine

variable (s : State)

/-! `goto` -/

@[simp] theorem goto_ctl (L : Ctl) : (goto L s).ctl = L := rfl
@[simp] theorem goto_phase (L : Ctl) : (goto L s).phase = s.phase := rfl
@[simp] theorem goto_bitcnt (L : Ctl) : (goto L s).bitcnt = s.bitcnt := rfl
@[simp] theorem goto_acc (L : Ctl) : (goto L s).acc = s.acc := rfl
@[simp] theorem goto_op (L : Ctl) : (goto L s).op = s.op := rfl
@[simp] theorem goto_tx (L : Ctl) : (goto L s).tx = s.tx := rfl
@[simp] theorem goto_marker (L : Ctl) : (goto L s).marker = s.marker := rfl
@[simp] theorem goto_tEntry (L : Ctl) : (goto L s).tEntry = s.tEntry := rfl
@[simp] theorem goto_tHoldEnd (L : Ctl) : (goto L s).tHoldEnd = s.tHoldEnd := rfl
@[simp] theorem goto_clk (L : Ctl) : (goto L s).clk = s.clk := rfl
@[simp] theorem goto_dataDir (L : Ctl) : (goto L s).dataDir = s.dataDir := rfl
@[simp] theorem goto_dataOut (L : Ctl) : (goto L s).dataOut = s.dataOut := rfl
@[simp] theorem goto_hostDrive (L : Ctl) : (goto L s).hostDrive = s.hostDrive := rfl
@[simp] theorem goto_now (L : Ctl) : (goto L s).now = s.now := rfl
@[simp] theorem goto_hostMoves (L : Ctl) : (goto L s).hostMoves = s.hostMoves := rfl
@[simp] theorem goto_moveCount (L : Ctl) : (goto L s).moveCount = s.moveCount := rfl
@[simp] theorem goto_moveDraws (L : Ctl) : (goto L s).moveDraws = s.moveDraws := rfl
@[simp] theorem goto_hostSince (L : Ctl) : (goto L s).hostSince = s.hostSince := rfl
@[simp] theorem goto_lastMove (L : Ctl) : (goto L s).lastMove = s.lastMove := rfl
@[simp] theorem goto_takes (L : Ctl) : (goto L s).takes = s.takes := rfl
@[simp] theorem goto_takeCount (L : Ctl) : (goto L s).takeCount = s.takeCount := rfl
@[simp] theorem goto_draws (L : Ctl) : (goto L s).draws = s.draws := rfl
@[simp] theorem goto_drawCount (L : Ctl) : (goto L s).drawCount = s.drawCount := rfl
@[simp] theorem goto_cfg (L : Ctl) : (goto L s).cfg = s.cfg := rfl

/-! `setPhase` -/

@[simp] theorem setPhase_ctl (p : Phase) : (setPhase p s).ctl = s.ctl := rfl
@[simp] theorem setPhase_phase (p : Phase) : (setPhase p s).phase = p := rfl
@[simp] theorem setPhase_bitcnt (p : Phase) : (setPhase p s).bitcnt = s.bitcnt := rfl
@[simp] theorem setPhase_acc (p : Phase) : (setPhase p s).acc = s.acc := rfl
@[simp] theorem setPhase_op (p : Phase) : (setPhase p s).op = s.op := rfl
@[simp] theorem setPhase_tx (p : Phase) : (setPhase p s).tx = s.tx := rfl
@[simp] theorem setPhase_marker (p : Phase) : (setPhase p s).marker = s.marker := rfl
@[simp] theorem setPhase_tEntry (p : Phase) : (setPhase p s).tEntry = s.tEntry := rfl
@[simp] theorem setPhase_tHoldEnd (p : Phase) : (setPhase p s).tHoldEnd = s.tHoldEnd := rfl
@[simp] theorem setPhase_clk (p : Phase) : (setPhase p s).clk = s.clk := rfl
@[simp] theorem setPhase_dataDir (p : Phase) : (setPhase p s).dataDir = s.dataDir := rfl
@[simp] theorem setPhase_dataOut (p : Phase) : (setPhase p s).dataOut = s.dataOut := rfl
@[simp] theorem setPhase_hostDrive (p : Phase) : (setPhase p s).hostDrive = s.hostDrive := rfl
@[simp] theorem setPhase_now (p : Phase) : (setPhase p s).now = s.now := rfl
@[simp] theorem setPhase_hostMoves (p : Phase) : (setPhase p s).hostMoves = s.hostMoves := rfl
@[simp] theorem setPhase_moveCount (p : Phase) : (setPhase p s).moveCount = s.moveCount := rfl
@[simp] theorem setPhase_moveDraws (p : Phase) : (setPhase p s).moveDraws = s.moveDraws := rfl
@[simp] theorem setPhase_hostSince (p : Phase) : (setPhase p s).hostSince = s.hostSince := rfl
@[simp] theorem setPhase_lastMove (p : Phase) : (setPhase p s).lastMove = s.lastMove := rfl
@[simp] theorem setPhase_takes (p : Phase) : (setPhase p s).takes = s.takes := rfl
@[simp] theorem setPhase_takeCount (p : Phase) : (setPhase p s).takeCount = s.takeCount := rfl
@[simp] theorem setPhase_draws (p : Phase) : (setPhase p s).draws = s.draws := rfl
@[simp] theorem setPhase_drawCount (p : Phase) : (setPhase p s).drawCount = s.drawCount := rfl
@[simp] theorem setPhase_cfg (p : Phase) : (setPhase p s).cfg = s.cfg := rfl

/-! `setClock` -/

@[simp] theorem setClock_ctl (l : Bit) : (setClock l s).ctl = s.ctl := rfl
@[simp] theorem setClock_phase (l : Bit) : (setClock l s).phase = s.phase := rfl
@[simp] theorem setClock_bitcnt (l : Bit) : (setClock l s).bitcnt = s.bitcnt := rfl
@[simp] theorem setClock_acc (l : Bit) : (setClock l s).acc = s.acc := rfl
@[simp] theorem setClock_op (l : Bit) : (setClock l s).op = s.op := rfl
@[simp] theorem setClock_tx (l : Bit) : (setClock l s).tx = s.tx := rfl
@[simp] theorem setClock_marker (l : Bit) : (setClock l s).marker = s.marker := rfl
@[simp] theorem setClock_tEntry (l : Bit) : (setClock l s).tEntry = s.tEntry := rfl
@[simp] theorem setClock_tHoldEnd (l : Bit) : (setClock l s).tHoldEnd = s.tHoldEnd := rfl
@[simp] theorem setClock_clk (l : Bit) : (setClock l s).clk = l := rfl
@[simp] theorem setClock_dataDir (l : Bit) : (setClock l s).dataDir = s.dataDir := rfl
@[simp] theorem setClock_dataOut (l : Bit) : (setClock l s).dataOut = s.dataOut := rfl
@[simp] theorem setClock_hostDrive (l : Bit) : (setClock l s).hostDrive = s.hostDrive := rfl
@[simp] theorem setClock_now (l : Bit) : (setClock l s).now = s.now := rfl
@[simp] theorem setClock_hostMoves (l : Bit) : (setClock l s).hostMoves = s.hostMoves := rfl
@[simp] theorem setClock_moveCount (l : Bit) : (setClock l s).moveCount = s.moveCount := rfl
@[simp] theorem setClock_moveDraws (l : Bit) : (setClock l s).moveDraws = s.moveDraws := rfl
@[simp] theorem setClock_hostSince (l : Bit) : (setClock l s).hostSince = s.hostSince := rfl
@[simp] theorem setClock_lastMove (l : Bit) : (setClock l s).lastMove = s.lastMove := rfl
@[simp] theorem setClock_takes (l : Bit) : (setClock l s).takes = s.takes := rfl
@[simp] theorem setClock_takeCount (l : Bit) : (setClock l s).takeCount = s.takeCount := rfl
@[simp] theorem setClock_draws (l : Bit) : (setClock l s).draws = s.draws := rfl
@[simp] theorem setClock_drawCount (l : Bit) : (setClock l s).drawCount = s.drawCount := rfl
@[simp] theorem setClock_cfg (l : Bit) : (setClock l s).cfg = s.cfg := rfl

/-! `setDataDirection` -/

@[simp] theorem setDataDirection_ctl (d : DataDir) : (setDataDirection d s).ctl = s.ctl := rfl
@[simp] theorem setDataDirection_phase (d : DataDir) : (setDataDirection d s).phase = s.phase := rfl
@[simp] theorem setDataDirection_bitcnt (d : DataDir) : (setDataDirection d s).bitcnt = s.bitcnt := rfl
@[simp] theorem setDataDirection_acc (d : DataDir) : (setDataDirection d s).acc = s.acc := rfl
@[simp] theorem setDataDirection_op (d : DataDir) : (setDataDirection d s).op = s.op := rfl
@[simp] theorem setDataDirection_tx (d : DataDir) : (setDataDirection d s).tx = s.tx := rfl
@[simp] theorem setDataDirection_marker (d : DataDir) : (setDataDirection d s).marker = s.marker := rfl
@[simp] theorem setDataDirection_tEntry (d : DataDir) : (setDataDirection d s).tEntry = s.tEntry := rfl
@[simp] theorem setDataDirection_tHoldEnd (d : DataDir) : (setDataDirection d s).tHoldEnd = s.tHoldEnd := rfl
@[simp] theorem setDataDirection_clk (d : DataDir) : (setDataDirection d s).clk = s.clk := rfl
@[simp] theorem setDataDirection_dataDir (d : DataDir) : (setDataDirection d s).dataDir = d := rfl
@[simp] theorem setDataDirection_dataOut (d : DataDir) : (setDataDirection d s).dataOut = s.dataOut := rfl
@[simp] theorem setDataDirection_hostDrive (d : DataDir) : (setDataDirection d s).hostDrive = s.hostDrive := rfl
@[simp] theorem setDataDirection_now (d : DataDir) : (setDataDirection d s).now = s.now := rfl
@[simp] theorem setDataDirection_hostMoves (d : DataDir) : (setDataDirection d s).hostMoves = s.hostMoves := rfl
@[simp] theorem setDataDirection_moveCount (d : DataDir) : (setDataDirection d s).moveCount = s.moveCount := rfl
@[simp] theorem setDataDirection_moveDraws (d : DataDir) : (setDataDirection d s).moveDraws = s.moveDraws := rfl
@[simp] theorem setDataDirection_hostSince (d : DataDir) : (setDataDirection d s).hostSince = s.hostSince := rfl
@[simp] theorem setDataDirection_lastMove (d : DataDir) : (setDataDirection d s).lastMove = s.lastMove := rfl
@[simp] theorem setDataDirection_takes (d : DataDir) : (setDataDirection d s).takes = s.takes := rfl
@[simp] theorem setDataDirection_takeCount (d : DataDir) : (setDataDirection d s).takeCount = s.takeCount := rfl
@[simp] theorem setDataDirection_draws (d : DataDir) : (setDataDirection d s).draws = s.draws := rfl
@[simp] theorem setDataDirection_drawCount (d : DataDir) : (setDataDirection d s).drawCount = s.drawCount := rfl
@[simp] theorem setDataDirection_cfg (d : DataDir) : (setDataDirection d s).cfg = s.cfg := rfl

/-! `useDraw` -/

@[simp] theorem useDraw_ctl : (useDraw s).ctl = s.ctl := rfl
@[simp] theorem useDraw_phase : (useDraw s).phase = s.phase := rfl
@[simp] theorem useDraw_bitcnt : (useDraw s).bitcnt = s.bitcnt := rfl
@[simp] theorem useDraw_acc : (useDraw s).acc = s.acc := rfl
@[simp] theorem useDraw_op : (useDraw s).op = s.op := rfl
@[simp] theorem useDraw_tx : (useDraw s).tx = s.tx := rfl
@[simp] theorem useDraw_marker : (useDraw s).marker = s.marker := rfl
@[simp] theorem useDraw_tEntry : (useDraw s).tEntry = s.tEntry := rfl
@[simp] theorem useDraw_tHoldEnd : (useDraw s).tHoldEnd = s.tHoldEnd := rfl
@[simp] theorem useDraw_clk : (useDraw s).clk = s.clk := rfl
@[simp] theorem useDraw_dataDir : (useDraw s).dataDir = s.dataDir := rfl
@[simp] theorem useDraw_dataOut : (useDraw s).dataOut = s.dataOut := rfl
@[simp] theorem useDraw_hostDrive : (useDraw s).hostDrive = s.hostDrive := rfl
@[simp] theorem useDraw_now : (useDraw s).now = s.now := rfl
@[simp] theorem useDraw_hostMoves : (useDraw s).hostMoves = s.hostMoves := rfl
@[simp] theorem useDraw_moveCount : (useDraw s).moveCount = s.moveCount := rfl
@[simp] theorem useDraw_moveDraws : (useDraw s).moveDraws = s.moveDraws := rfl
@[simp] theorem useDraw_hostSince : (useDraw s).hostSince = s.hostSince := rfl
@[simp] theorem useDraw_lastMove : (useDraw s).lastMove = s.lastMove := rfl
@[simp] theorem useDraw_takes : (useDraw s).takes = s.takes := rfl
@[simp] theorem useDraw_takeCount : (useDraw s).takeCount = s.takeCount := rfl
@[simp] theorem useDraw_draws : (useDraw s).draws = s.draws.tail := rfl
@[simp] theorem useDraw_drawCount : (useDraw s).drawCount = s.drawCount + 1 := rfl
@[simp] theorem useDraw_cfg : (useDraw s).cfg = s.cfg := rfl

/-! `hold` -/

@[simp] theorem hold_ctl (D : Nat) : (hold D s).ctl = s.ctl := rfl
@[simp] theorem hold_phase (D : Nat) : (hold D s).phase = s.phase := rfl
@[simp] theorem hold_bitcnt (D : Nat) : (hold D s).bitcnt = s.bitcnt := rfl
@[simp] theorem hold_acc (D : Nat) : (hold D s).acc = s.acc := rfl
@[simp] theorem hold_op (D : Nat) : (hold D s).op = s.op := rfl
@[simp] theorem hold_tx (D : Nat) : (hold D s).tx = s.tx := rfl
@[simp] theorem hold_marker (D : Nat) : (hold D s).marker = s.marker := rfl
@[simp] theorem hold_tEntry (D : Nat) : (hold D s).tEntry = s.tEntry := rfl
@[simp] theorem hold_tHoldEnd (D : Nat) : (hold D s).tHoldEnd = s.now + holdDuration s.cfg D (s.drawAt 0) := rfl
@[simp] theorem hold_clk (D : Nat) : (hold D s).clk = s.clk := rfl
@[simp] theorem hold_dataDir (D : Nat) : (hold D s).dataDir = s.dataDir := rfl
@[simp] theorem hold_dataOut (D : Nat) : (hold D s).dataOut = s.dataOut := rfl
@[simp] theorem hold_hostDrive (D : Nat) : (hold D s).hostDrive = s.hostDrive := rfl
@[simp] theorem hold_now (D : Nat) : (hold D s).now = s.now := rfl
@[simp] theorem hold_hostMoves (D : Nat) : (hold D s).hostMoves = s.hostMoves := rfl
@[simp] theorem hold_moveCount (D : Nat) : (hold D s).moveCount = s.moveCount := rfl
@[simp] theorem hold_moveDraws (D : Nat) : (hold D s).moveDraws = s.moveDraws := rfl
@[simp] theorem hold_hostSince (D : Nat) : (hold D s).hostSince = s.hostSince := rfl
@[simp] theorem hold_lastMove (D : Nat) : (hold D s).lastMove = s.lastMove := rfl
@[simp] theorem hold_takes (D : Nat) : (hold D s).takes = s.takes := rfl
@[simp] theorem hold_takeCount (D : Nat) : (hold D s).takeCount = s.takeCount := rfl
@[simp] theorem hold_draws (D : Nat) : (hold D s).draws = s.draws.tail := rfl
@[simp] theorem hold_drawCount (D : Nat) : (hold D s).drawCount = s.drawCount + 1 := rfl
@[simp] theorem hold_cfg (D : Nat) : (hold D s).cfg = s.cfg := rfl

/-! `pollWait` -/

@[simp] theorem pollWait_ctl : (pollWait s).ctl = s.ctl := rfl
@[simp] theorem pollWait_phase : (pollWait s).phase = s.phase := rfl
@[simp] theorem pollWait_bitcnt : (pollWait s).bitcnt = s.bitcnt := rfl
@[simp] theorem pollWait_acc : (pollWait s).acc = s.acc := rfl
@[simp] theorem pollWait_op : (pollWait s).op = s.op := rfl
@[simp] theorem pollWait_tx : (pollWait s).tx = s.tx := rfl
@[simp] theorem pollWait_marker : (pollWait s).marker = s.marker := rfl
@[simp] theorem pollWait_tEntry : (pollWait s).tEntry = s.tEntry := rfl
@[simp] theorem pollWait_tHoldEnd : (pollWait s).tHoldEnd = s.tHoldEnd := rfl
@[simp] theorem pollWait_clk : (pollWait s).clk = s.clk := rfl
@[simp] theorem pollWait_dataDir : (pollWait s).dataDir = s.dataDir := rfl
@[simp] theorem pollWait_dataOut : (pollWait s).dataOut = s.dataOut := rfl
@[simp] theorem pollWait_hostDrive : (pollWait s).hostDrive = s.hostDrive := rfl
@[simp] theorem pollWait_now : (pollWait s).now = s.now + pollDuration s.cfg (s.drawAt 0) := rfl
@[simp] theorem pollWait_hostMoves : (pollWait s).hostMoves = s.hostMoves := rfl
@[simp] theorem pollWait_moveCount : (pollWait s).moveCount = s.moveCount := rfl
@[simp] theorem pollWait_moveDraws : (pollWait s).moveDraws = s.moveDraws := rfl
@[simp] theorem pollWait_hostSince : (pollWait s).hostSince = s.hostSince := rfl
@[simp] theorem pollWait_lastMove : (pollWait s).lastMove = s.lastMove := rfl
@[simp] theorem pollWait_takes : (pollWait s).takes = s.takes := rfl
@[simp] theorem pollWait_takeCount : (pollWait s).takeCount = s.takeCount := rfl
@[simp] theorem pollWait_draws : (pollWait s).draws = s.draws.tail := rfl
@[simp] theorem pollWait_drawCount : (pollWait s).drawCount = s.drawCount + 1 := rfl
@[simp] theorem pollWait_cfg : (pollWait s).cfg = s.cfg := rfl

/-! `endHold` -/

@[simp] theorem endHold_ctl : (endHold s).ctl = s.ctl := rfl
@[simp] theorem endHold_phase : (endHold s).phase = s.phase := rfl
@[simp] theorem endHold_bitcnt : (endHold s).bitcnt = s.bitcnt := rfl
@[simp] theorem endHold_acc : (endHold s).acc = s.acc := rfl
@[simp] theorem endHold_op : (endHold s).op = s.op := rfl
@[simp] theorem endHold_tx : (endHold s).tx = s.tx := rfl
@[simp] theorem endHold_marker : (endHold s).marker = s.marker := rfl
@[simp] theorem endHold_tEntry : (endHold s).tEntry = s.tEntry := rfl
@[simp] theorem endHold_tHoldEnd : (endHold s).tHoldEnd = s.tHoldEnd := rfl
@[simp] theorem endHold_clk : (endHold s).clk = s.clk := rfl
@[simp] theorem endHold_dataDir : (endHold s).dataDir = s.dataDir := rfl
@[simp] theorem endHold_dataOut : (endHold s).dataOut = s.dataOut := rfl
@[simp] theorem endHold_hostDrive : (endHold s).hostDrive = s.hostDrive := rfl
@[simp] theorem endHold_now : (endHold s).now = max s.now s.tHoldEnd := rfl
@[simp] theorem endHold_hostMoves : (endHold s).hostMoves = s.hostMoves := rfl
@[simp] theorem endHold_moveCount : (endHold s).moveCount = s.moveCount := rfl
@[simp] theorem endHold_moveDraws : (endHold s).moveDraws = s.moveDraws := rfl
@[simp] theorem endHold_hostSince : (endHold s).hostSince = s.hostSince := rfl
@[simp] theorem endHold_lastMove : (endHold s).lastMove = s.lastMove := rfl
@[simp] theorem endHold_takes : (endHold s).takes = s.takes := rfl
@[simp] theorem endHold_takeCount : (endHold s).takeCount = s.takeCount := rfl
@[simp] theorem endHold_draws : (endHold s).draws = s.draws := rfl
@[simp] theorem endHold_drawCount : (endHold s).drawCount = s.drawCount := rfl
@[simp] theorem endHold_cfg : (endHold s).cfg = s.cfg := rfl

/-! `tick` -/

@[simp] theorem tick_ctl : (tick s).ctl = s.ctl := rfl
@[simp] theorem tick_phase : (tick s).phase = s.phase := rfl
@[simp] theorem tick_bitcnt : (tick s).bitcnt = s.bitcnt := rfl
@[simp] theorem tick_acc : (tick s).acc = s.acc := rfl
@[simp] theorem tick_op : (tick s).op = s.op := rfl
@[simp] theorem tick_tx : (tick s).tx = s.tx := rfl
@[simp] theorem tick_marker : (tick s).marker = s.marker := rfl
@[simp] theorem tick_tEntry : (tick s).tEntry = s.tEntry := rfl
@[simp] theorem tick_tHoldEnd : (tick s).tHoldEnd = s.tHoldEnd := rfl
@[simp] theorem tick_clk : (tick s).clk = s.clk := rfl
@[simp] theorem tick_dataDir : (tick s).dataDir = s.dataDir := rfl
@[simp] theorem tick_dataOut : (tick s).dataOut = s.dataOut := rfl
@[simp] theorem tick_hostDrive : (tick s).hostDrive = s.hostAt 0 := rfl
@[simp] theorem tick_now : (tick s).now = s.now := rfl
@[simp] theorem tick_hostMoves : (tick s).hostMoves = s.hostMoves.tail := rfl
@[simp] theorem tick_moveCount : (tick s).moveCount = s.moveCount + 1 := rfl
@[simp] theorem tick_moveDraws : (tick s).moveDraws = s.moveDraws.tail := rfl
@[simp] theorem tick_hostSince : (tick s).hostSince = hostSinceAfter (s.hostAt 0) s := rfl
@[simp] theorem tick_lastMove : (tick s).lastMove = s.now := rfl
@[simp] theorem tick_takes : (tick s).takes = s.takes := rfl
@[simp] theorem tick_takeCount : (tick s).takeCount = s.takeCount := rfl
@[simp] theorem tick_draws : (tick s).draws = s.draws := rfl
@[simp] theorem tick_drawCount : (tick s).drawCount = s.drawCount := rfl
@[simp] theorem tick_cfg : (tick s).cfg = s.cfg := rfl

/-! `taken` -/

@[simp] theorem taken_ctl : (taken s).ctl = s.ctl := rfl
@[simp] theorem taken_phase : (taken s).phase = s.phase := rfl
@[simp] theorem taken_bitcnt : (taken s).bitcnt = s.bitcnt := rfl
@[simp] theorem taken_acc : (taken s).acc = s.acc := rfl
@[simp] theorem taken_op : (taken s).op = s.op := rfl
@[simp] theorem taken_tx : (taken s).tx = s.tx := rfl
@[simp] theorem taken_marker : (taken s).marker = s.marker := rfl
@[simp] theorem taken_tEntry : (taken s).tEntry = s.tEntry := rfl
@[simp] theorem taken_tHoldEnd : (taken s).tHoldEnd = s.tHoldEnd := rfl
@[simp] theorem taken_clk : (taken s).clk = s.clk := rfl
@[simp] theorem taken_dataDir : (taken s).dataDir = s.dataDir := rfl
@[simp] theorem taken_dataOut : (taken s).dataOut = s.dataOut := rfl
@[simp] theorem taken_hostDrive : (taken s).hostDrive = s.hostDrive := rfl
@[simp] theorem taken_now : (taken s).now = s.now := rfl
@[simp] theorem taken_hostMoves : (taken s).hostMoves = s.hostMoves := rfl
@[simp] theorem taken_moveCount : (taken s).moveCount = s.moveCount := rfl
@[simp] theorem taken_moveDraws : (taken s).moveDraws = s.moveDraws := rfl
@[simp] theorem taken_hostSince : (taken s).hostSince = s.hostSince := rfl
@[simp] theorem taken_lastMove : (taken s).lastMove = s.lastMove := rfl
@[simp] theorem taken_takes : (taken s).takes = s.takes.tail := rfl
@[simp] theorem taken_takeCount : (taken s).takeCount = s.takeCount + 1 := rfl
@[simp] theorem taken_draws : (taken s).draws = s.draws := rfl
@[simp] theorem taken_drawCount : (taken s).drawCount = s.drawCount := rfl
@[simp] theorem taken_cfg : (taken s).cfg = s.cfg := rfl

/-! `sendAt` -/

@[simp] theorem sendAt_ctl (L : Ctl) (v : Byte) : (sendAt L v s).ctl = L := rfl
@[simp] theorem sendAt_phase (L : Ctl) (v : Byte) : (sendAt L v s).phase = s.phase := rfl
@[simp] theorem sendAt_bitcnt (L : Ctl) (v : Byte) : (sendAt L v s).bitcnt = s.bitcnt := rfl
@[simp] theorem sendAt_acc (L : Ctl) (v : Byte) : (sendAt L v s).acc = s.acc := rfl
@[simp] theorem sendAt_op (L : Ctl) (v : Byte) : (sendAt L v s).op = s.op := rfl
@[simp] theorem sendAt_tx (L : Ctl) (v : Byte) : (sendAt L v s).tx = v := rfl
@[simp] theorem sendAt_marker (L : Ctl) (v : Byte) : (sendAt L v s).marker = s.marker := rfl
@[simp] theorem sendAt_tEntry (L : Ctl) (v : Byte) : (sendAt L v s).tEntry = s.tEntry := rfl
@[simp] theorem sendAt_tHoldEnd (L : Ctl) (v : Byte) : (sendAt L v s).tHoldEnd = s.tHoldEnd := rfl
@[simp] theorem sendAt_clk (L : Ctl) (v : Byte) : (sendAt L v s).clk = s.clk := rfl
@[simp] theorem sendAt_dataDir (L : Ctl) (v : Byte) : (sendAt L v s).dataDir = s.dataDir := rfl
@[simp] theorem sendAt_dataOut (L : Ctl) (v : Byte) : (sendAt L v s).dataOut = s.dataOut := rfl
@[simp] theorem sendAt_hostDrive (L : Ctl) (v : Byte) : (sendAt L v s).hostDrive = s.hostDrive := rfl
@[simp] theorem sendAt_now (L : Ctl) (v : Byte) : (sendAt L v s).now = s.now := rfl
@[simp] theorem sendAt_hostMoves (L : Ctl) (v : Byte) : (sendAt L v s).hostMoves = s.hostMoves := rfl
@[simp] theorem sendAt_moveCount (L : Ctl) (v : Byte) : (sendAt L v s).moveCount = s.moveCount := rfl
@[simp] theorem sendAt_moveDraws (L : Ctl) (v : Byte) : (sendAt L v s).moveDraws = s.moveDraws := rfl
@[simp] theorem sendAt_hostSince (L : Ctl) (v : Byte) : (sendAt L v s).hostSince = s.hostSince := rfl
@[simp] theorem sendAt_lastMove (L : Ctl) (v : Byte) : (sendAt L v s).lastMove = s.lastMove := rfl
@[simp] theorem sendAt_takes (L : Ctl) (v : Byte) : (sendAt L v s).takes = s.takes := rfl
@[simp] theorem sendAt_takeCount (L : Ctl) (v : Byte) : (sendAt L v s).takeCount = s.takeCount := rfl
@[simp] theorem sendAt_draws (L : Ctl) (v : Byte) : (sendAt L v s).draws = s.draws := rfl
@[simp] theorem sendAt_drawCount (L : Ctl) (v : Byte) : (sendAt L v s).drawCount = s.drawCount := rfl
@[simp] theorem sendAt_cfg (L : Ctl) (v : Byte) : (sendAt L v s).cfg = s.cfg := rfl

end Sys2Proof.Machine
end

