-- ==== Sys2Proof/Laws/Ops.lean ====
section
/-! SUPPORT. What each shared operation can do, said once. -/

namespace Sys2Proof.Machine

section Streams

variable (s : State)

theorem getD_tail {α : Type} (l : List α) (k : Nat) (d : α) : l.tail.getD k d = l.getD (k + 1) d := by
  cases l <;> simp

/-! `hostAt`: an operation that uses one entry moves on by one, and every other operation leaves it. -/

@[simp] theorem goto_hostAt (L : Ctl) (k : Nat) : (goto L s).hostAt k = s.hostAt k := rfl
@[simp] theorem setPhase_hostAt (p : Phase) (k : Nat) : (setPhase p s).hostAt k = s.hostAt k := rfl
@[simp] theorem setClock_hostAt (l : Bit) (k : Nat) : (setClock l s).hostAt k = s.hostAt k := rfl
@[simp] theorem setDataDirection_hostAt (d : DataDir) (k : Nat) : (setDataDirection d s).hostAt k = s.hostAt k := rfl
@[simp] theorem useDraw_hostAt (k : Nat) : (useDraw s).hostAt k = s.hostAt k := rfl
@[simp] theorem hold_hostAt (D : Nat) (k : Nat) : (hold D s).hostAt k = s.hostAt k := rfl
@[simp] theorem pollWait_hostAt (k : Nat) : (pollWait s).hostAt k = s.hostAt k := rfl
@[simp] theorem endHold_hostAt (k : Nat) : (endHold s).hostAt k = s.hostAt k := rfl
@[simp] theorem tick_hostAt (k : Nat) : (tick s).hostAt k = s.hostAt (k + 1) := by
  simp [State.hostAt, Nat.add_assoc, Nat.add_comm 1 k]
@[simp] theorem taken_hostAt (k : Nat) : (taken s).hostAt k = s.hostAt k := rfl
@[simp] theorem sendAt_hostAt (L : Ctl) (v : Byte) (k : Nat) : (sendAt L v s).hostAt k = s.hostAt k := rfl

/-! `moveDrawAt`: an operation that uses one entry moves on by one, and every other operation leaves it. -/

@[simp] theorem goto_moveDrawAt (L : Ctl) (k : Nat) : (goto L s).moveDrawAt k = s.moveDrawAt k := rfl
@[simp] theorem setPhase_moveDrawAt (p : Phase) (k : Nat) : (setPhase p s).moveDrawAt k = s.moveDrawAt k := rfl
@[simp] theorem setClock_moveDrawAt (l : Bit) (k : Nat) : (setClock l s).moveDrawAt k = s.moveDrawAt k := rfl
@[simp] theorem setDataDirection_moveDrawAt (d : DataDir) (k : Nat) : (setDataDirection d s).moveDrawAt k = s.moveDrawAt k :=
  rfl
@[simp] theorem useDraw_moveDrawAt (k : Nat) : (useDraw s).moveDrawAt k = s.moveDrawAt k := rfl
@[simp] theorem hold_moveDrawAt (D : Nat) (k : Nat) : (hold D s).moveDrawAt k = s.moveDrawAt k := rfl
@[simp] theorem pollWait_moveDrawAt (k : Nat) : (pollWait s).moveDrawAt k = s.moveDrawAt k := rfl
@[simp] theorem endHold_moveDrawAt (k : Nat) : (endHold s).moveDrawAt k = s.moveDrawAt k := rfl
@[simp] theorem tick_moveDrawAt (k : Nat) : (tick s).moveDrawAt k = s.moveDrawAt (k + 1) := by
  simp [State.moveDrawAt, Nat.add_assoc, Nat.add_comm 1 k]
@[simp] theorem taken_moveDrawAt (k : Nat) : (taken s).moveDrawAt k = s.moveDrawAt k := rfl
@[simp] theorem sendAt_moveDrawAt (L : Ctl) (v : Byte) (k : Nat) : (sendAt L v s).moveDrawAt k = s.moveDrawAt k := rfl

/-! `takeAt`: an operation that uses one entry moves on by one, and every other operation leaves it. -/

@[simp] theorem goto_takeAt (L : Ctl) (k : Nat) : (goto L s).takeAt k = s.takeAt k := rfl
@[simp] theorem setPhase_takeAt (p : Phase) (k : Nat) : (setPhase p s).takeAt k = s.takeAt k := rfl
@[simp] theorem setClock_takeAt (l : Bit) (k : Nat) : (setClock l s).takeAt k = s.takeAt k := rfl
@[simp] theorem setDataDirection_takeAt (d : DataDir) (k : Nat) : (setDataDirection d s).takeAt k = s.takeAt k := rfl
@[simp] theorem useDraw_takeAt (k : Nat) : (useDraw s).takeAt k = s.takeAt k := rfl
@[simp] theorem hold_takeAt (D : Nat) (k : Nat) : (hold D s).takeAt k = s.takeAt k := rfl
@[simp] theorem pollWait_takeAt (k : Nat) : (pollWait s).takeAt k = s.takeAt k := rfl
@[simp] theorem endHold_takeAt (k : Nat) : (endHold s).takeAt k = s.takeAt k := rfl
@[simp] theorem tick_takeAt (k : Nat) : (tick s).takeAt k = s.takeAt k := rfl
@[simp] theorem taken_takeAt (k : Nat) : (taken s).takeAt k = s.takeAt (k + 1) := by
  simp [State.takeAt, Nat.add_assoc, Nat.add_comm 1 k]
@[simp] theorem sendAt_takeAt (L : Ctl) (v : Byte) (k : Nat) : (sendAt L v s).takeAt k = s.takeAt k := rfl

/-! `drawAt`: an operation that uses one entry moves on by one, and every other operation leaves it. -/

@[simp] theorem goto_drawAt (L : Ctl) (k : Nat) : (goto L s).drawAt k = s.drawAt k := rfl
@[simp] theorem setPhase_drawAt (p : Phase) (k : Nat) : (setPhase p s).drawAt k = s.drawAt k := rfl
@[simp] theorem setClock_drawAt (l : Bit) (k : Nat) : (setClock l s).drawAt k = s.drawAt k := rfl
@[simp] theorem setDataDirection_drawAt (d : DataDir) (k : Nat) : (setDataDirection d s).drawAt k = s.drawAt k := rfl
@[simp] theorem useDraw_drawAt (k : Nat) : (useDraw s).drawAt k = s.drawAt (k + 1) := by
  simp [State.drawAt, Nat.add_assoc, Nat.add_comm 1 k]
@[simp] theorem hold_drawAt (D : Nat) (k : Nat) : (hold D s).drawAt k = s.drawAt (k + 1) := by
  simp [State.drawAt, Nat.add_assoc, Nat.add_comm 1 k]
@[simp] theorem pollWait_drawAt (k : Nat) : (pollWait s).drawAt k = s.drawAt (k + 1) := by
  simp [State.drawAt, Nat.add_assoc, Nat.add_comm 1 k]
@[simp] theorem endHold_drawAt (k : Nat) : (endHold s).drawAt k = s.drawAt k := rfl
@[simp] theorem tick_drawAt (k : Nat) : (tick s).drawAt k = s.drawAt k := rfl
@[simp] theorem taken_drawAt (k : Nat) : (taken s).drawAt k = s.drawAt k := rfl
@[simp] theorem sendAt_drawAt (L : Ctl) (v : Byte) (k : Nat) : (sendAt L v s).drawAt k = s.drawAt k := rfl

end Streams

/-! The Line Interface. -/

theorem setData_next {l : Bit} {s t : State} :
    setData l s = .next t ↔ s.dataDir = .output ∧ t = { s with dataOut := l } := by
  unfold setData
  cases s.dataDir <;> simp [eq_comm]

theorem setData_of_output {l : Bit} {s : State} (h : s.dataDir = .output) :
    setData l s = .next { s with dataOut := l } := setData_next.2 ⟨h, rfl⟩

theorem readData_ok {b : Bit} {s : State} : readData s = .ok b ↔ s.dataDir = .input ∧ b = wireData s := by
  unfold readData
  cases s.dataDir <;> simp [eq_comm]

theorem readData_of_input {s : State} (h : s.dataDir = .input) : readData s = .ok (wireData s) :=
  readData_ok.2 ⟨h, rfl⟩

theorem wireData_tick (s : State) : wireData (tick s) = (s.hostAt 0).getD true := rfl

theorem andThen_next {r : Res} {f : State → State} {t : State} :
    andThen r f = .next t ↔ ∃ u, r = .next u ∧ t = f u := by
  cases r <;> simp [andThen, eq_comm]

/-- A sample of a wait ends it, or a poll period passes. -/
theorem waitData_next {l : Bit} {L : Ctl} {s t : State} :
    waitData l L s = .next t ↔
      s.dataDir = .input ∧ ((wireData s = l ∧ t = goto L s) ∨ (wireData s ≠ l ∧ t = pollWait s)) := by
  unfold waitData readData
  cases s.dataDir
  · by_cases h : wireData s = l <;> simp [h, eq_comm]
  · simp

@[simp] theorem holdInProgress_eq_true {s : State} : holdInProgress s = true ↔ s.now < s.tHoldEnd := by
  simp [holdInProgress]

@[simp] theorem holdInProgress_eq_false {s : State} : holdInProgress s = false ↔ s.tHoldEnd ≤ s.now := by
  simp [holdInProgress]

@[simp] theorem deadlinePassed_eq_true {s : State} :
    deadlinePassed s = true ↔ inquiryTimeoutUs ≤ s.now - s.tEntry := by
  simp [deadlinePassed]

/-! Durations. -/

theorem drawBetween_bounds {lo hi : Nat} (h : lo ≤ hi) (raw : Nat) :
    lo ≤ drawBetween lo hi raw ∧ drawBetween lo hi raw ≤ hi := by
  have := Nat.mod_lt raw (show 0 < hi - lo + 1 by omega)
  unfold drawBetween
  omega

theorem drawBetween_of_sub {lo hi d : Nat} (h₁ : lo ≤ d) (h₂ : d ≤ hi) : drawBetween lo hi (d - lo) = d := by
  unfold drawBetween
  rw [Nat.mod_eq_of_lt (by omega)]
  omega

/-- The nominal duration is one of those a hold may have. -/
theorem holdMin_le_holdMax (P : Params) (D : Nat) : holdMin P D ≤ D ∧ D ≤ holdMax P D := by
  have h := P.tol_lt_one
  constructor
  · unfold holdMin
    refine Nat.lt_succ_iff.1 (Nat.div_lt_of_lt_mul ?_)
    have h₁ : D * (P.tolDen - P.tolNum) ≤ D * P.tolDen := Nat.mul_le_mul_left _ (Nat.sub_le _ _)
    have h₂ : P.tolDen * (D + 1) = D * P.tolDen + P.tolDen := by ring
    rw [Nat.succ_eq_add_one, h₂]
    omega
  · unfold holdMax
    rw [Nat.le_div_iff_mul_le (by omega)]
    exact Nat.mul_le_mul_left _ (by omega)

theorem holdDuration_bounds (P : Params) (D : Nat) (raw : Nat) :
    holdMin P D ≤ holdDuration P D raw ∧ holdDuration P D raw ≤ holdMax P D :=
  drawBetween_bounds ((holdMin_le_holdMax P D).1.trans (holdMin_le_holdMax P D).2) raw

/-- Every duration in the interval of R105 is drawn. -/
theorem holdDuration_of_sub (P : Params) {D d : Nat} (h₁ : holdMin P D ≤ d) (h₂ : d ≤ holdMax P D) :
    holdDuration P D (d - holdMin P D) = d :=
  drawBetween_of_sub h₁ h₂

/-- The interval's lower end, without its rounding. -/
theorem holdMin_le_iff (P : Params) {D d : Nat} :
    holdMin P D ≤ d ↔ D * (P.tolDen - P.tolNum) ≤ d * P.tolDen := by
  have h := P.tol_lt_one
  have e : P.tolDen * (d + 1) = d * P.tolDen + P.tolDen := by ring
  rw [holdMin, ← Nat.lt_succ_iff, Nat.succ_eq_add_one, Nat.div_lt_iff_lt_mul (by omega), Nat.mul_comm (d + 1), e]
  omega

/-- The interval's upper end, without its rounding. -/
theorem le_holdMax_iff (P : Params) {D d : Nat} :
    d ≤ holdMax P D ↔ d * P.tolDen ≤ D * (P.tolDen + P.tolNum) :=
  Nat.le_div_iff_mul_le (by have := P.tol_lt_one; omega)

/-- A hold of a positive duration takes time. -/
theorem holdMin_pos (P : Params) {D : Nat} (h : 0 < D) : 0 < holdMin P D := by
  have h₁ := P.tol_lt_one
  unfold holdMin
  refine Nat.div_pos ?_ (by omega)
  have : 1 * 1 ≤ D * (P.tolDen - P.tolNum) := Nat.mul_le_mul h (by omega)
  omega

theorem holdDuration_zero (P : Params) (raw : Nat) : holdDuration P 0 raw = 0 := by
  have h := P.tol_lt_one
  have : (P.tolDen - 1) / P.tolDen = 0 := Nat.div_eq_of_lt (by omega)
  simp [holdDuration, drawBetween, holdMin, holdMax, this, Nat.mod_one]

theorem pollDuration_bounds (P : Params) (raw : Nat) :
    0 < pollDuration P raw ∧ pollDuration P raw ≤ P.pollMaxUs :=
  drawBetween_bounds (show 1 ≤ P.pollMaxUs from P.pollMax_pos) raw

/-! The time of a host move. -/

/-- A host that goes on driving the same keeps its time; a change falls between the last step that let it move and this
one. -/
theorem hostSinceAfter_cases (d : Option Bit) {s : State} (h : s.lastMove ≤ s.now) :
    (d = s.hostDrive ∧ hostSinceAfter d s = s.hostSince) ∨
    (d ≠ s.hostDrive ∧ s.lastMove ≤ hostSinceAfter d s ∧ hostSinceAfter d s ≤ s.now) := by
  unfold hostSinceAfter
  split
  · exact .inl ⟨‹_›, rfl⟩
  · exact .inr ⟨‹_›, drawBetween_bounds h _⟩

/-! The Key Translator's table (42_key_translator R144). -/

theorem arrowMarker_injective (P : Params) {d d' : Dir} {e e' : Edge}
    (h : P.arrowMarker d e = P.arrowMarker d' e') : d = d' ∧ e = e' := by
  have hn := P.markers_distinct
  cases d <;> cases d' <;> cases e <;> cases e' <;>
    simp_all [Params.arrowMarker, PerDir.get, PerEdge.get, PerDir.toList, PerEdge.toList]

theorem arrowCode_injective (P : Params) {d d' : Dir} (h : P.arrowCode d = P.arrowCode d') : d = d' := by
  have hn := P.codes_distinct
  cases d <;> cases d' <;> simp_all [Params.arrowCode, PerDir.get, PerDir.toList]

theorem arrowCode_bit7 (P : Params) (d : Dir) : (P.arrowCode d).getLsbD 7 = false := by
  have hn := P.codes_bit7
  cases d <;> simp_all [Params.arrowCode, PerDir.get, PerDir.toList]

end Sys2Proof.Machine
end

