-- ==== Sys2Proof/Laws/PerInstr.lean ====
section
/-! SUPPORT. Laws stated per instruction: in each context, a unit is the word of one instruction only. -/

namespace Sys2Proof.Laws.UniqueWord

/-- No other well-formed instruction of the same context has this instruction's unit. -/
def Statement (i : Instr) : Prop :=
  i.wf = true → ∀ j : Instr, j.wf = true → j.context = i.context → encode j = encode i → j = i

theorem inquiry : Statement .inquiry := by
  intro _ j hj hc he
  cases j <;> simp_all [encode, Instr.wf, Instr.context, opInquiry, opInstant, opModel, opTest]

theorem instant : Statement .instant := by
  intro _ j hj hc he
  cases j <;> simp_all [encode, Instr.wf, Instr.context, opInquiry, opInstant, opModel, opTest]

theorem modelNumber : Statement .modelNumber := by
  intro _ j hj hc he
  cases j <;> simp_all [encode, Instr.wf, Instr.context, opInquiry, opInstant, opModel, opTest]

theorem test : Statement .test := by
  intro _ j hj hc he
  cases j <;> simp_all [encode, Instr.wf, Instr.context, opInquiry, opInstant, opModel, opTest]

theorem unknown (op : Byte) : Statement (.unknown op) := by
  intro hi j hj hc he
  cases j <;> simp_all [encode, Instr.wf, Instr.context, opInquiry, opInstant, opModel, opTest]

theorem subInstant : Statement .subInstant := by
  intro _ j hj hc he
  cases j <;> simp_all [encode, Instr.wf, Instr.context, opInstant]

theorem subDrop (op : Byte) : Statement (.subDrop op) := by
  intro hi j hj hc he
  cases j <;> simp_all [encode, Instr.wf, Instr.context, opInstant]

end Sys2Proof.Laws.UniqueWord
end

