-- ==== Sys2Proof/Laws/Transceiver.lean ====
section
/-! SUPPORT. One lemma per field for every row of the Bit Transceiver, and what each row leaves of the environment's
choices. -/

namespace Sys2Proof.Machine

variable (s : State)

/-! `rxClockLow` -/

@[simp] theorem rxClockLow_ctl : (rxClockLow s).ctl = s.ctl := rfl
@[simp] theorem rxClockLow_phase : (rxClockLow s).phase = .rxLow := rfl
@[simp] theorem rxClockLow_bitcnt : (rxClockLow s).bitcnt = s.bitcnt := rfl
@[simp] theorem rxClockLow_acc : (rxClockLow s).acc = s.acc := rfl
@[simp] theorem rxClockLow_op : (rxClockLow s).op = s.op := rfl
@[simp] theorem rxClockLow_tx : (rxClockLow s).tx = s.tx := rfl
@[simp] theorem rxClockLow_marker : (rxClockLow s).marker = s.marker := rfl
@[simp] theorem rxClockLow_tEntry : (rxClockLow s).tEntry = s.tEntry := rfl
@[simp] theorem rxClockLow_tHoldEnd : (rxClockLow s).tHoldEnd =
    s.now + holdDuration s.cfg s.cfg.rxLowUs (s.drawAt 0) := rfl
@[simp] theorem rxClockLow_clk : (rxClockLow s).clk = false := rfl
@[simp] theorem rxClockLow_dataDir : (rxClockLow s).dataDir = s.dataDir := rfl
@[simp] theorem rxClockLow_dataOut : (rxClockLow s).dataOut = s.dataOut := rfl
@[simp] theorem rxClockLow_hostDrive : (rxClockLow s).hostDrive = s.hostDrive := rfl
@[simp] theorem rxClockLow_now : (rxClockLow s).now = s.now := rfl
@[simp] theorem rxClockLow_hostMoves : (rxClockLow s).hostMoves = s.hostMoves := rfl
@[simp] theorem rxClockLow_moveCount : (rxClockLow s).moveCount = s.moveCount := rfl
@[simp] theorem rxClockLow_moveDraws : (rxClockLow s).moveDraws = s.moveDraws := rfl
@[simp] theorem rxClockLow_hostSince : (rxClockLow s).hostSince = s.hostSince := rfl
@[simp] theorem rxClockLow_lastMove : (rxClockLow s).lastMove = s.lastMove := rfl
@[simp] theorem rxClockLow_takes : (rxClockLow s).takes = s.takes := rfl
@[simp] theorem rxClockLow_takeCount : (rxClockLow s).takeCount = s.takeCount := rfl
@[simp] theorem rxClockLow_draws : (rxClockLow s).draws = s.draws.tail := rfl
@[simp] theorem rxClockLow_drawCount : (rxClockLow s).drawCount = s.drawCount + 1 := rfl
@[simp] theorem rxClockLow_cfg : (rxClockLow s).cfg = s.cfg := rfl
@[simp] theorem rxClockLow_hostAt (k : Nat) : (rxClockLow s).hostAt k = s.hostAt k := rfl
@[simp] theorem rxClockLow_takeAt (k : Nat) : (rxClockLow s).takeAt k = s.takeAt k := rfl
@[simp] theorem rxClockLow_moveDrawAt (k : Nat) : (rxClockLow s).moveDrawAt k = s.moveDrawAt k := rfl
@[simp] theorem rxClockLow_drawAt (k : Nat) : (rxClockLow s).drawAt k = s.drawAt (k + 1) :=
  useDraw_drawAt s k

/-! `rxClockHigh` -/

@[simp] theorem rxClockHigh_ctl : (rxClockHigh s).ctl = s.ctl := rfl
@[simp] theorem rxClockHigh_phase : (rxClockHigh s).phase = .rxHigh := rfl
@[simp] theorem rxClockHigh_bitcnt : (rxClockHigh s).bitcnt = s.bitcnt := rfl
@[simp] theorem rxClockHigh_acc : (rxClockHigh s).acc = s.acc := rfl
@[simp] theorem rxClockHigh_op : (rxClockHigh s).op = s.op := rfl
@[simp] theorem rxClockHigh_tx : (rxClockHigh s).tx = s.tx := rfl
@[simp] theorem rxClockHigh_marker : (rxClockHigh s).marker = s.marker := rfl
@[simp] theorem rxClockHigh_tEntry : (rxClockHigh s).tEntry = s.tEntry := rfl
@[simp] theorem rxClockHigh_tHoldEnd : (rxClockHigh s).tHoldEnd =
    s.now + holdDuration s.cfg s.cfg.rxSampleUs (s.drawAt 0) := rfl
@[simp] theorem rxClockHigh_clk : (rxClockHigh s).clk = true := rfl
@[simp] theorem rxClockHigh_dataDir : (rxClockHigh s).dataDir = s.dataDir := rfl
@[simp] theorem rxClockHigh_dataOut : (rxClockHigh s).dataOut = s.dataOut := rfl
@[simp] theorem rxClockHigh_hostDrive : (rxClockHigh s).hostDrive = s.hostDrive := rfl
@[simp] theorem rxClockHigh_now : (rxClockHigh s).now = s.now := rfl
@[simp] theorem rxClockHigh_hostMoves : (rxClockHigh s).hostMoves = s.hostMoves := rfl
@[simp] theorem rxClockHigh_moveCount : (rxClockHigh s).moveCount = s.moveCount := rfl
@[simp] theorem rxClockHigh_moveDraws : (rxClockHigh s).moveDraws = s.moveDraws := rfl
@[simp] theorem rxClockHigh_hostSince : (rxClockHigh s).hostSince = s.hostSince := rfl
@[simp] theorem rxClockHigh_lastMove : (rxClockHigh s).lastMove = s.lastMove := rfl
@[simp] theorem rxClockHigh_takes : (rxClockHigh s).takes = s.takes := rfl
@[simp] theorem rxClockHigh_takeCount : (rxClockHigh s).takeCount = s.takeCount := rfl
@[simp] theorem rxClockHigh_draws : (rxClockHigh s).draws = s.draws.tail := rfl
@[simp] theorem rxClockHigh_drawCount : (rxClockHigh s).drawCount = s.drawCount + 1 := rfl
@[simp] theorem rxClockHigh_cfg : (rxClockHigh s).cfg = s.cfg := rfl
@[simp] theorem rxClockHigh_hostAt (k : Nat) : (rxClockHigh s).hostAt k = s.hostAt k := rfl
@[simp] theorem rxClockHigh_takeAt (k : Nat) : (rxClockHigh s).takeAt k = s.takeAt k := rfl
@[simp] theorem rxClockHigh_moveDrawAt (k : Nat) : (rxClockHigh s).moveDrawAt k = s.moveDrawAt k := rfl
@[simp] theorem rxClockHigh_drawAt (k : Nat) : (rxClockHigh s).drawAt k = s.drawAt (k + 1) :=
  useDraw_drawAt s k

/-! `rxFold` -/

@[simp] theorem rxFold_ctl (b : Bit) : (rxFold b s).ctl = s.ctl := rfl
@[simp] theorem rxFold_phase (b : Bit) : (rxFold b s).phase = .rxPost := rfl
@[simp] theorem rxFold_bitcnt (b : Bit) : (rxFold b s).bitcnt = s.bitcnt + 1 := rfl
@[simp] theorem rxFold_acc (b : Bit) : (rxFold b s).acc = shiftIn s.acc b := rfl
@[simp] theorem rxFold_op (b : Bit) : (rxFold b s).op = s.op := rfl
@[simp] theorem rxFold_tx (b : Bit) : (rxFold b s).tx = s.tx := rfl
@[simp] theorem rxFold_marker (b : Bit) : (rxFold b s).marker = s.marker := rfl
@[simp] theorem rxFold_tEntry (b : Bit) : (rxFold b s).tEntry = s.tEntry := rfl
@[simp] theorem rxFold_tHoldEnd (b : Bit) : (rxFold b s).tHoldEnd =
    s.now + holdDuration s.cfg s.cfg.rxPostUs (s.drawAt 0) := rfl
@[simp] theorem rxFold_clk (b : Bit) : (rxFold b s).clk = s.clk := rfl
@[simp] theorem rxFold_dataDir (b : Bit) : (rxFold b s).dataDir = s.dataDir := rfl
@[simp] theorem rxFold_dataOut (b : Bit) : (rxFold b s).dataOut = s.dataOut := rfl
@[simp] theorem rxFold_hostDrive (b : Bit) : (rxFold b s).hostDrive = s.hostDrive := rfl
@[simp] theorem rxFold_now (b : Bit) : (rxFold b s).now = s.now := rfl
@[simp] theorem rxFold_hostMoves (b : Bit) : (rxFold b s).hostMoves = s.hostMoves := rfl
@[simp] theorem rxFold_moveCount (b : Bit) : (rxFold b s).moveCount = s.moveCount := rfl
@[simp] theorem rxFold_moveDraws (b : Bit) : (rxFold b s).moveDraws = s.moveDraws := rfl
@[simp] theorem rxFold_hostSince (b : Bit) : (rxFold b s).hostSince = s.hostSince := rfl
@[simp] theorem rxFold_lastMove (b : Bit) : (rxFold b s).lastMove = s.lastMove := rfl
@[simp] theorem rxFold_takes (b : Bit) : (rxFold b s).takes = s.takes := rfl
@[simp] theorem rxFold_takeCount (b : Bit) : (rxFold b s).takeCount = s.takeCount := rfl
@[simp] theorem rxFold_draws (b : Bit) : (rxFold b s).draws = s.draws.tail := rfl
@[simp] theorem rxFold_drawCount (b : Bit) : (rxFold b s).drawCount = s.drawCount + 1 := rfl
@[simp] theorem rxFold_cfg (b : Bit) : (rxFold b s).cfg = s.cfg := rfl
@[simp] theorem rxFold_hostAt (b : Bit) (k : Nat) : (rxFold b s).hostAt k = s.hostAt k := rfl
@[simp] theorem rxFold_takeAt (b : Bit) (k : Nat) : (rxFold b s).takeAt k = s.takeAt k := rfl
@[simp] theorem rxFold_moveDrawAt (b : Bit) (k : Nat) : (rxFold b s).moveDrawAt k = s.moveDrawAt k := rfl
@[simp] theorem rxFold_drawAt (b : Bit) (k : Nat) : (rxFold b s).drawAt k = s.drawAt (k + 1) :=
  useDraw_drawAt s k

/-! `txBeginSetup` -/

@[simp] theorem txBeginSetup_ctl : (txBeginSetup s).ctl = s.ctl := rfl
@[simp] theorem txBeginSetup_phase : (txBeginSetup s).phase = .txSetup := rfl
@[simp] theorem txBeginSetup_bitcnt : (txBeginSetup s).bitcnt = s.bitcnt := rfl
@[simp] theorem txBeginSetup_acc : (txBeginSetup s).acc = s.acc := rfl
@[simp] theorem txBeginSetup_op : (txBeginSetup s).op = s.op := rfl
@[simp] theorem txBeginSetup_tx : (txBeginSetup s).tx = s.tx := rfl
@[simp] theorem txBeginSetup_marker : (txBeginSetup s).marker = s.marker := rfl
@[simp] theorem txBeginSetup_tEntry : (txBeginSetup s).tEntry = s.tEntry := rfl
@[simp] theorem txBeginSetup_tHoldEnd : (txBeginSetup s).tHoldEnd =
    s.now + holdDuration s.cfg s.cfg.txSetupUs (s.drawAt 0) := rfl
@[simp] theorem txBeginSetup_clk : (txBeginSetup s).clk = s.clk := rfl
@[simp] theorem txBeginSetup_dataDir : (txBeginSetup s).dataDir = s.dataDir := rfl
@[simp] theorem txBeginSetup_dataOut : (txBeginSetup s).dataOut = s.dataOut := rfl
@[simp] theorem txBeginSetup_hostDrive : (txBeginSetup s).hostDrive = s.hostDrive := rfl
@[simp] theorem txBeginSetup_now : (txBeginSetup s).now = s.now := rfl
@[simp] theorem txBeginSetup_hostMoves : (txBeginSetup s).hostMoves = s.hostMoves := rfl
@[simp] theorem txBeginSetup_moveCount : (txBeginSetup s).moveCount = s.moveCount := rfl
@[simp] theorem txBeginSetup_moveDraws : (txBeginSetup s).moveDraws = s.moveDraws := rfl
@[simp] theorem txBeginSetup_hostSince : (txBeginSetup s).hostSince = s.hostSince := rfl
@[simp] theorem txBeginSetup_lastMove : (txBeginSetup s).lastMove = s.lastMove := rfl
@[simp] theorem txBeginSetup_takes : (txBeginSetup s).takes = s.takes := rfl
@[simp] theorem txBeginSetup_takeCount : (txBeginSetup s).takeCount = s.takeCount := rfl
@[simp] theorem txBeginSetup_draws : (txBeginSetup s).draws = s.draws.tail := rfl
@[simp] theorem txBeginSetup_drawCount : (txBeginSetup s).drawCount = s.drawCount + 1 := rfl
@[simp] theorem txBeginSetup_cfg : (txBeginSetup s).cfg = s.cfg := rfl
@[simp] theorem txBeginSetup_hostAt (k : Nat) : (txBeginSetup s).hostAt k = s.hostAt k := rfl
@[simp] theorem txBeginSetup_takeAt (k : Nat) : (txBeginSetup s).takeAt k = s.takeAt k := rfl
@[simp] theorem txBeginSetup_moveDrawAt (k : Nat) : (txBeginSetup s).moveDrawAt k = s.moveDrawAt k := rfl
@[simp] theorem txBeginSetup_drawAt (k : Nat) : (txBeginSetup s).drawAt k = s.drawAt (k + 1) :=
  useDraw_drawAt s k

/-! `txClockLow` -/

@[simp] theorem txClockLow_ctl : (txClockLow s).ctl = s.ctl := rfl
@[simp] theorem txClockLow_phase : (txClockLow s).phase = .txLow := rfl
@[simp] theorem txClockLow_bitcnt : (txClockLow s).bitcnt = s.bitcnt := rfl
@[simp] theorem txClockLow_acc : (txClockLow s).acc = s.acc := rfl
@[simp] theorem txClockLow_op : (txClockLow s).op = s.op := rfl
@[simp] theorem txClockLow_tx : (txClockLow s).tx = s.tx := rfl
@[simp] theorem txClockLow_marker : (txClockLow s).marker = s.marker := rfl
@[simp] theorem txClockLow_tEntry : (txClockLow s).tEntry = s.tEntry := rfl
@[simp] theorem txClockLow_tHoldEnd : (txClockLow s).tHoldEnd =
    s.now + holdDuration s.cfg s.cfg.txLowUs (s.drawAt 0) := rfl
@[simp] theorem txClockLow_clk : (txClockLow s).clk = false := rfl
@[simp] theorem txClockLow_dataDir : (txClockLow s).dataDir = s.dataDir := rfl
@[simp] theorem txClockLow_dataOut : (txClockLow s).dataOut = s.dataOut := rfl
@[simp] theorem txClockLow_hostDrive : (txClockLow s).hostDrive = s.hostDrive := rfl
@[simp] theorem txClockLow_now : (txClockLow s).now = s.now := rfl
@[simp] theorem txClockLow_hostMoves : (txClockLow s).hostMoves = s.hostMoves := rfl
@[simp] theorem txClockLow_moveCount : (txClockLow s).moveCount = s.moveCount := rfl
@[simp] theorem txClockLow_moveDraws : (txClockLow s).moveDraws = s.moveDraws := rfl
@[simp] theorem txClockLow_hostSince : (txClockLow s).hostSince = s.hostSince := rfl
@[simp] theorem txClockLow_lastMove : (txClockLow s).lastMove = s.lastMove := rfl
@[simp] theorem txClockLow_takes : (txClockLow s).takes = s.takes := rfl
@[simp] theorem txClockLow_takeCount : (txClockLow s).takeCount = s.takeCount := rfl
@[simp] theorem txClockLow_draws : (txClockLow s).draws = s.draws.tail := rfl
@[simp] theorem txClockLow_drawCount : (txClockLow s).drawCount = s.drawCount + 1 := rfl
@[simp] theorem txClockLow_cfg : (txClockLow s).cfg = s.cfg := rfl
@[simp] theorem txClockLow_hostAt (k : Nat) : (txClockLow s).hostAt k = s.hostAt k := rfl
@[simp] theorem txClockLow_takeAt (k : Nat) : (txClockLow s).takeAt k = s.takeAt k := rfl
@[simp] theorem txClockLow_moveDrawAt (k : Nat) : (txClockLow s).moveDrawAt k = s.moveDrawAt k := rfl
@[simp] theorem txClockLow_drawAt (k : Nat) : (txClockLow s).drawAt k = s.drawAt (k + 1) :=
  useDraw_drawAt s k

/-! `txClockHigh` -/

@[simp] theorem txClockHigh_ctl : (txClockHigh s).ctl = s.ctl := rfl
@[simp] theorem txClockHigh_phase : (txClockHigh s).phase = .txHigh := rfl
@[simp] theorem txClockHigh_bitcnt : (txClockHigh s).bitcnt = s.bitcnt := rfl
@[simp] theorem txClockHigh_acc : (txClockHigh s).acc = s.acc := rfl
@[simp] theorem txClockHigh_op : (txClockHigh s).op = s.op := rfl
@[simp] theorem txClockHigh_tx : (txClockHigh s).tx = s.tx := rfl
@[simp] theorem txClockHigh_marker : (txClockHigh s).marker = s.marker := rfl
@[simp] theorem txClockHigh_tEntry : (txClockHigh s).tEntry = s.tEntry := rfl
@[simp] theorem txClockHigh_tHoldEnd : (txClockHigh s).tHoldEnd =
    s.now + holdDuration s.cfg s.cfg.txHighUs (s.drawAt 0) := rfl
@[simp] theorem txClockHigh_clk : (txClockHigh s).clk = true := rfl
@[simp] theorem txClockHigh_dataDir : (txClockHigh s).dataDir = s.dataDir := rfl
@[simp] theorem txClockHigh_dataOut : (txClockHigh s).dataOut = s.dataOut := rfl
@[simp] theorem txClockHigh_hostDrive : (txClockHigh s).hostDrive = s.hostDrive := rfl
@[simp] theorem txClockHigh_now : (txClockHigh s).now = s.now := rfl
@[simp] theorem txClockHigh_hostMoves : (txClockHigh s).hostMoves = s.hostMoves := rfl
@[simp] theorem txClockHigh_moveCount : (txClockHigh s).moveCount = s.moveCount := rfl
@[simp] theorem txClockHigh_moveDraws : (txClockHigh s).moveDraws = s.moveDraws := rfl
@[simp] theorem txClockHigh_hostSince : (txClockHigh s).hostSince = s.hostSince := rfl
@[simp] theorem txClockHigh_lastMove : (txClockHigh s).lastMove = s.lastMove := rfl
@[simp] theorem txClockHigh_takes : (txClockHigh s).takes = s.takes := rfl
@[simp] theorem txClockHigh_takeCount : (txClockHigh s).takeCount = s.takeCount := rfl
@[simp] theorem txClockHigh_draws : (txClockHigh s).draws = s.draws.tail := rfl
@[simp] theorem txClockHigh_drawCount : (txClockHigh s).drawCount = s.drawCount + 1 := rfl
@[simp] theorem txClockHigh_cfg : (txClockHigh s).cfg = s.cfg := rfl
@[simp] theorem txClockHigh_hostAt (k : Nat) : (txClockHigh s).hostAt k = s.hostAt k := rfl
@[simp] theorem txClockHigh_takeAt (k : Nat) : (txClockHigh s).takeAt k = s.takeAt k := rfl
@[simp] theorem txClockHigh_moveDrawAt (k : Nat) : (txClockHigh s).moveDrawAt k = s.moveDrawAt k := rfl
@[simp] theorem txClockHigh_drawAt (k : Nat) : (txClockHigh s).drawAt k = s.drawAt (k + 1) :=
  useDraw_drawAt s k

/-! `rxEntry` -/

@[simp] theorem rxEntry_ctl : (rxEntry s).ctl = s.ctl := rfl
@[simp] theorem rxEntry_phase : (rxEntry s).phase = .rxLow := rfl
@[simp] theorem rxEntry_bitcnt : (rxEntry s).bitcnt = 0 := rfl
@[simp] theorem rxEntry_acc : (rxEntry s).acc = 0 := rfl
@[simp] theorem rxEntry_op : (rxEntry s).op = s.op := rfl
@[simp] theorem rxEntry_tx : (rxEntry s).tx = s.tx := rfl
@[simp] theorem rxEntry_marker : (rxEntry s).marker = s.marker := rfl
@[simp] theorem rxEntry_tEntry : (rxEntry s).tEntry = s.tEntry := rfl
@[simp] theorem rxEntry_tHoldEnd : (rxEntry s).tHoldEnd =
    s.now + holdDuration s.cfg s.cfg.rxLowUs (s.drawAt 0) := rfl
@[simp] theorem rxEntry_clk : (rxEntry s).clk = false := rfl
@[simp] theorem rxEntry_dataDir : (rxEntry s).dataDir = s.dataDir := rfl
@[simp] theorem rxEntry_dataOut : (rxEntry s).dataOut = s.dataOut := rfl
@[simp] theorem rxEntry_hostDrive : (rxEntry s).hostDrive = s.hostDrive := rfl
@[simp] theorem rxEntry_now : (rxEntry s).now = s.now := rfl
@[simp] theorem rxEntry_hostMoves : (rxEntry s).hostMoves = s.hostMoves := rfl
@[simp] theorem rxEntry_moveCount : (rxEntry s).moveCount = s.moveCount := rfl
@[simp] theorem rxEntry_moveDraws : (rxEntry s).moveDraws = s.moveDraws := rfl
@[simp] theorem rxEntry_hostSince : (rxEntry s).hostSince = s.hostSince := rfl
@[simp] theorem rxEntry_lastMove : (rxEntry s).lastMove = s.lastMove := rfl
@[simp] theorem rxEntry_takes : (rxEntry s).takes = s.takes := rfl
@[simp] theorem rxEntry_takeCount : (rxEntry s).takeCount = s.takeCount := rfl
@[simp] theorem rxEntry_draws : (rxEntry s).draws = s.draws.tail := rfl
@[simp] theorem rxEntry_drawCount : (rxEntry s).drawCount = s.drawCount + 1 := rfl
@[simp] theorem rxEntry_cfg : (rxEntry s).cfg = s.cfg := rfl
@[simp] theorem rxEntry_hostAt (k : Nat) : (rxEntry s).hostAt k = s.hostAt k := rfl
@[simp] theorem rxEntry_takeAt (k : Nat) : (rxEntry s).takeAt k = s.takeAt k := rfl
@[simp] theorem rxEntry_moveDrawAt (k : Nat) : (rxEntry s).moveDrawAt k = s.moveDrawAt k := rfl
@[simp] theorem rxEntry_drawAt (k : Nat) : (rxEntry s).drawAt k = s.drawAt (k + 1) :=
  useDraw_drawAt s k

/-! `txEntry` -/

@[simp] theorem txEntry_ctl : (txEntry s).ctl = s.ctl := rfl
@[simp] theorem txEntry_phase : (txEntry s).phase = .txSetup := rfl
@[simp] theorem txEntry_bitcnt : (txEntry s).bitcnt = 8 := rfl
@[simp] theorem txEntry_acc : (txEntry s).acc = s.acc := rfl
@[simp] theorem txEntry_op : (txEntry s).op = s.op := rfl
@[simp] theorem txEntry_tx : (txEntry s).tx = s.tx := rfl
@[simp] theorem txEntry_marker : (txEntry s).marker = s.marker := rfl
@[simp] theorem txEntry_tEntry : (txEntry s).tEntry = s.tEntry := rfl
@[simp] theorem txEntry_tHoldEnd : (txEntry s).tHoldEnd =
    s.now + holdDuration s.cfg s.cfg.txSetupUs (s.drawAt 0) := rfl
@[simp] theorem txEntry_clk : (txEntry s).clk = s.clk := rfl
@[simp] theorem txEntry_dataDir : (txEntry s).dataDir = .output := rfl
@[simp] theorem txEntry_dataOut : (txEntry s).dataOut = txBit s.tx 8 := rfl
@[simp] theorem txEntry_hostDrive : (txEntry s).hostDrive = s.hostDrive := rfl
@[simp] theorem txEntry_now : (txEntry s).now = s.now := rfl
@[simp] theorem txEntry_hostMoves : (txEntry s).hostMoves = s.hostMoves := rfl
@[simp] theorem txEntry_moveCount : (txEntry s).moveCount = s.moveCount := rfl
@[simp] theorem txEntry_moveDraws : (txEntry s).moveDraws = s.moveDraws := rfl
@[simp] theorem txEntry_hostSince : (txEntry s).hostSince = s.hostSince := rfl
@[simp] theorem txEntry_lastMove : (txEntry s).lastMove = s.lastMove := rfl
@[simp] theorem txEntry_takes : (txEntry s).takes = s.takes := rfl
@[simp] theorem txEntry_takeCount : (txEntry s).takeCount = s.takeCount := rfl
@[simp] theorem txEntry_draws : (txEntry s).draws = s.draws.tail := rfl
@[simp] theorem txEntry_drawCount : (txEntry s).drawCount = s.drawCount + 1 := rfl
@[simp] theorem txEntry_cfg : (txEntry s).cfg = s.cfg := rfl
@[simp] theorem txEntry_hostAt (k : Nat) : (txEntry s).hostAt k = s.hostAt k := rfl
@[simp] theorem txEntry_takeAt (k : Nat) : (txEntry s).takeAt k = s.takeAt k := rfl
@[simp] theorem txEntry_moveDrawAt (k : Nat) : (txEntry s).moveDrawAt k = s.moveDrawAt k := rfl
@[simp] theorem txEntry_drawAt (k : Nat) : (txEntry s).drawAt k = s.drawAt (k + 1) :=
  useDraw_drawAt s k

/-! The Bit Transceiver. -/

/-- What a row of receiveByte can do (41_bit_transceiver R130). -/
theorem stepReceive_next {L : Ctl} {s t : State} (h : stepReceive L s = .next t) :
    (s.phase = .none ∧ t = tick s) ∨
    (s.phase = .rxLow ∧ t = rxClockHigh (tick (endHold s))) ∨
    (s.phase = .rxHigh ∧ s.dataDir = .input ∧ t = rxFold (wireData (tick (endHold s))) (tick (endHold s))) ∨
    (s.phase = .rxPost ∧ s.bitcnt < 8 ∧ t = rxClockLow (tick (endHold s))) ∨
    (s.phase = .rxPost ∧ s.bitcnt = 8 ∧ t = goto L (setPhase .none { tick (endHold s) with op := s.acc })) := by
  unfold stepReceive readData at h
  cases hp : s.phase <;> simp only [hp] at h
  case none => simp_all
  case rxLow => simp_all
  case rxHigh => cases hd : s.dataDir <;> simp_all
  case rxPost => split at h <;> [skip; split at h] <;> simp_all
  all_goals cases h

/-- What a row of sendByte can do (41_bit_transceiver R131). -/
theorem stepSend_next {L : Ctl} {s t : State} (h : stepSend L s = .next t) :
    (s.phase = .none ∧ t = tick s) ∨
    (s.phase = .txSetup ∧ t = txClockLow (tick (endHold s))) ∨
    (s.phase = .txLow ∧ t = txClockHigh (tick (endHold s))) ∨
    (s.phase = .txHigh ∧ 1 < s.bitcnt ∧ s.dataDir = .output ∧
      t = txBeginSetup { tick (endHold s) with bitcnt := s.bitcnt - 1, dataOut := txBit s.tx (s.bitcnt - 1) }) ∨
    (s.phase = .txHigh ∧ s.bitcnt = 1 ∧
      t = goto L (setPhase .none (setDataDirection .input { tick (endHold s) with bitcnt := 0 }))) := by
  unfold stepSend at h
  cases hp : s.phase <;> simp only [hp] at h
  case none => simp_all
  case txSetup => simp_all
  case txLow => simp_all
  case txHigh =>
    split at h
    · obtain ⟨u, hu, rfl⟩ := andThen_next.1 h
      obtain ⟨hd, rfl⟩ := setData_next.1 hu
      simp_all
    · split at h <;> simp_all
  all_goals cases h

end Sys2Proof.Machine
end

