-- ==== Sys2Proof/Laws/Step.lean ====
section
/-! SUPPORT. The step at each label, and what a run of steps is. -/

namespace Sys2Proof.Machine

/-! The Inquiry poll. -/

/-- A poll iteration takes a key, meets the deadline, or waits (44_inquiry_handler R180 to R182). -/
theorem inquiryPoll_cases (s : State) :
    (∃ b, s.takeAt 0 = some b ∧ isMarker s.cfg b = true ∧
      inquiryPoll s = sendAt .txKeypad rspKeypad { taken s with marker := b }) ∨
    (∃ b, s.takeAt 0 = some b ∧ isMarker s.cfg b = false ∧ inquiryPoll s = sendAt .txAnswer b (taken s)) ∨
    (s.takeAt 0 = none ∧ inquiryTimeoutUs ≤ s.now - s.tEntry ∧
      inquiryPoll s = sendAt .txAnswer rspNoKey (taken s)) ∨
    (s.takeAt 0 = none ∧ s.now - s.tEntry < inquiryTimeoutUs ∧ inquiryPoll s = pollWait (taken s)) := by
  unfold inquiryPoll take
  cases h : s.takeAt 0 with
  | some b =>
    cases hm : isMarker s.cfg b <;> simp [keyOutcome, hm]
  | none =>
    by_cases hd : inquiryTimeoutUs ≤ s.now - s.tEntry
    · simp [deadlinePassed, deadlineOutcome, hd]
    · simp [deadlinePassed, hd, Nat.not_le.1 hd]

/-! What the engine does on reaching a label. -/

/-- At a settle label its hold begins; at a transceiver label the entry row of a frame not yet entered runs; nothing
happens at any other label, or inside a frame. -/
theorem arrive_cases (s : State) :
    (s.ctl = .settle ∧ arrive s = hold s.cfg.settleUs s) ∨
    (s.ctl = .subSettle ∧ arrive s = hold s.cfg.subSettleUs s) ∨
    (s.ctl.isReceive = true ∧ s.phase = .none ∧ arrive s = rxEntry s) ∨
    (s.ctl.isSend = true ∧ s.phase = .none ∧ arrive s = txEntry s) ∨
    (s.ctl.isSettle = false ∧ (s.ctl.isReceive = true ∨ s.ctl.isSend = true → s.phase ≠ .none) ∧ arrive s = s) := by
  unfold arrive
  cases hc : s.ctl <;> by_cases hp : s.phase = .none <;> simp [hp, Ctl.isReceive, Ctl.isSend, Ctl.isSettle]

theorem arrive_settle {s : State} (h : s.ctl = .settle) : arrive s = hold s.cfg.settleUs s := by simp [arrive, h]

theorem arrive_subSettle {s : State} (h : s.ctl = .subSettle) : arrive s = hold s.cfg.subSettleUs s := by
  simp [arrive, h]

theorem arrive_receive {s : State} (h : s.ctl.isReceive = true) (hp : s.phase = .none) : arrive s = rxEntry s := by
  have : s.ctl = .rx ∨ s.ctl = .subRx := by simpa [Ctl.isReceive] using h
  rcases this with h | h <;> simp [arrive, h, hp]

theorem arrive_send {s : State} (h : s.ctl.isSend = true) (hp : s.phase = .none) : arrive s = txEntry s := by
  have : s.ctl = .txAnswer ∨ s.ctl = .txKeypad := by simpa [Ctl.isSend] using h
  rcases this with h | h <;> simp [arrive, h, hp]

/-- Inside a frame nothing is left to do. -/
theorem arrive_frame {s : State} (h : s.ctl.isSettle = false) (hp : s.phase ≠ .none) : arrive s = s := by
  rcases arrive_cases s with h' | h' | h' | h' | h' <;> simp_all [Ctl.isSettle]

/-- Nor at a label that is neither a settle nor a transceiver label. -/
theorem arrive_plain {s : State} (h : s.ctl.isSettle = false) (hr : s.ctl.isReceive = false)
    (hs : s.ctl.isSend = false) : arrive s = s := by
  rcases arrive_cases s with h' | h' | h' | h' | h' <;> simp_all [Ctl.isSettle]

/-! What arriving leaves unchanged. -/

@[simp] theorem arrive_ctl (s : State) : (arrive s).ctl = s.ctl := by
  rcases arrive_cases s with h | h | h | h | h <;> simp [h]
@[simp] theorem arrive_op (s : State) : (arrive s).op = s.op := by
  rcases arrive_cases s with h | h | h | h | h <;> simp [h]
@[simp] theorem arrive_tx (s : State) : (arrive s).tx = s.tx := by
  rcases arrive_cases s with h | h | h | h | h <;> simp [h]
@[simp] theorem arrive_marker (s : State) : (arrive s).marker = s.marker := by
  rcases arrive_cases s with h | h | h | h | h <;> simp [h]
@[simp] theorem arrive_tEntry (s : State) : (arrive s).tEntry = s.tEntry := by
  rcases arrive_cases s with h | h | h | h | h <;> simp [h]
@[simp] theorem arrive_hostDrive (s : State) : (arrive s).hostDrive = s.hostDrive := by
  rcases arrive_cases s with h | h | h | h | h <;> simp [h]
@[simp] theorem arrive_now (s : State) : (arrive s).now = s.now := by
  rcases arrive_cases s with h | h | h | h | h <;> simp [h]
@[simp] theorem arrive_hostMoves (s : State) : (arrive s).hostMoves = s.hostMoves := by
  rcases arrive_cases s with h | h | h | h | h <;> simp [h]
@[simp] theorem arrive_moveCount (s : State) : (arrive s).moveCount = s.moveCount := by
  rcases arrive_cases s with h | h | h | h | h <;> simp [h]
@[simp] theorem arrive_moveDraws (s : State) : (arrive s).moveDraws = s.moveDraws := by
  rcases arrive_cases s with h | h | h | h | h <;> simp [h]
@[simp] theorem arrive_hostSince (s : State) : (arrive s).hostSince = s.hostSince := by
  rcases arrive_cases s with h | h | h | h | h <;> simp [h]
@[simp] theorem arrive_lastMove (s : State) : (arrive s).lastMove = s.lastMove := by
  rcases arrive_cases s with h | h | h | h | h <;> simp [h]
@[simp] theorem arrive_takes (s : State) : (arrive s).takes = s.takes := by
  rcases arrive_cases s with h | h | h | h | h <;> simp [h]
@[simp] theorem arrive_takeCount (s : State) : (arrive s).takeCount = s.takeCount := by
  rcases arrive_cases s with h | h | h | h | h <;> simp [h]
@[simp] theorem arrive_cfg (s : State) : (arrive s).cfg = s.cfg := by
  rcases arrive_cases s with h | h | h | h | h <;> simp [h]
@[simp] theorem arrive_hostAt (s : State) (k : Nat) : (arrive s).hostAt k = s.hostAt k := by simp [State.hostAt]
@[simp] theorem arrive_moveDrawAt (s : State) (k : Nat) : (arrive s).moveDrawAt k = s.moveDrawAt k := by
  simp [State.moveDrawAt]
@[simp] theorem arrive_takeAt (s : State) (k : Nat) : (arrive s).takeAt k = s.takeAt k := by simp [State.takeAt]

/-! The step at each label. -/

variable {s : State}

theorem step_dispatch (h : s.ctl = .dispatch) : step s = andThen (exec (decodeUnit .main s.op) s) arrive := by
  simp [step, fetch, h]

theorem step_subDispatch (h : s.ctl = .subDispatch) : step s = andThen (exec (decodeUnit .sub s.op) s) arrive := by
  simp [step, fetch, h]

/-- At every other label the step is the label's own, and then what the engine does on reaching the next. -/
theorem step_label (h : s.ctl ≠ .dispatch) (h' : s.ctl ≠ .subDispatch) :
    step s = andThen (stepLabel s) arrive := by
  unfold step fetch
  cases hc : s.ctl <;> simp_all

theorem step_top (h : s.ctl = .top) : step s = .next (goto .idle (setDataDirection .input (tick s))) := by
  rw [step_label (by simp [h]) (by simp [h])]
  simp [stepLabel, h, stepTop, andThen, arrive]

theorem step_settle (h : s.ctl = .settle) : step s = .next (arrive (goto .rx (tick (endHold s)))) := by
  rw [step_label (by simp [h]) (by simp [h])]
  simp [stepLabel, h, stepSettle, andThen]

theorem step_subSettle (h : s.ctl = .subSettle) : step s = .next (arrive (goto .subRx (tick (endHold s)))) := by
  rw [step_label (by simp [h]) (by simp [h])]
  simp [stepLabel, h, stepSubSettle, andThen]

theorem step_inqPoll (h : s.ctl = .inqPoll) : step s = .next (arrive (inquiryPoll (tick s))) := by
  rw [step_label (by simp [h]) (by simp [h])]
  simp [stepLabel, h, stepInqPoll, andThen]

/-- At either receive label the step is a row of receiveByte. -/
theorem step_receive (h : s.ctl.isReceive = true) :
    step s = andThen (stepReceive (afterReceive s.ctl) s) arrive := by
  have : s.ctl = .rx ∨ s.ctl = .subRx := by simpa [Ctl.isReceive] using h
  rcases this with h | h <;> rw [step_label (by simp [h]) (by simp [h])] <;>
    simp [stepLabel, h, stepRx, stepSubRx, afterReceive]

/-- At either send label the step is a row of sendByte. -/
theorem step_send (h : s.ctl.isSend = true) :
    step s = andThen (stepSend (afterSend s.ctl) s) arrive := by
  have : s.ctl = .txAnswer ∨ s.ctl = .txKeypad := by simpa [Ctl.isSend] using h
  rcases this with h | h <;> rw [step_label (by simp [h]) (by simp [h])] <;>
    simp [stepLabel, h, stepTxAnswer, stepTxKeypad, afterSend]

/-- At the four wait labels the step is a sample of its wait. -/
theorem step_wait (h : s.ctl.isWait = true) :
    step s = andThen (waitData (awaited s.ctl) (afterWait s.ctl) (tick s)) arrive := by
  have : ((s.ctl = .idle ∨ s.ctl = .waitReady) ∨ s.ctl = .subIdle) ∨ s.ctl = .subWaitReady := by
    simpa [Ctl.isWait] using h
  rcases this with ((h | h) | h) | h <;> rw [step_label (by simp [h]) (by simp [h])] <;>
    simp [stepLabel, h, stepIdle, stepWaitReady, stepSubIdle, stepSubWaitReady, awaited, afterWait]

/-- The meaning of each command. -/
theorem exec_cases (i : Instr) (s : State) :
    (i = .inquiry ∧ exec i s = .next { s with tEntry := s.now, ctl := .inqPoll }) ∨
    (i = .instant ∧ exec i s = .next (sendAt .txAnswer (instantAnswer (s.takeAt 0)) (taken s))) ∨
    (i = .modelNumber ∧ exec i s = .next (sendAt .txAnswer rspModel s)) ∨
    (i = .test ∧ exec i s = .next (sendAt .txAnswer rspTest s)) ∨
    ((∃ op, i = .unknown op) ∧ exec i s = .next (goto .top s)) ∨
    (i = .subInstant ∧ exec i s = .next (sendAt .txAnswer (translateMarker s.cfg s.marker) s)) ∨
    ((∃ op, i = .subDrop op) ∧ exec i s = .next (goto .top s)) := by
  cases i <;> simp [exec, execInquiry, execInstant, execModelNumber, execTest, execUnknown, execSubInstant,
    execSubDrop, take]

theorem steps_add (m n : Nat) (s t : State) (h : steps m s = .next t) : steps (m + n) s = steps n t := by
  induction m generalizing s with
  | zero => cases h; simp
  | succ m ih =>
    rw [Nat.succ_add]
    cases hs : step s with
    | next u => simp only [steps, hs] at h ⊢; exact ih u h
    | fault e => simp [steps, hs] at h
    | refused e => simp [steps, hs] at h

theorem steps_succ_of_step {n : Nat} {t : State} (h : step s = .next t) : steps (n + 1) s = steps n t := by
  simp [steps, h]

theorem hostReads_add (m n : Nat) (s t : State) (h : steps m s = .next t) :
    hostReads (m + n) s = hostReads m s ++ hostReads n t := by
  induction m generalizing s with
  | zero => cases h; simp [hostReads]
  | succ m ih =>
    rw [Nat.succ_add]
    cases hs : step s with
    | next u =>
      simp only [steps, hs] at h
      simp only [hostReads, hs, ih u h]
      split <;> simp
    | fault e => simp [steps, hs] at h
    | refused e => simp [steps, hs] at h

/-! The classes of labels. -/

theorem ctl_classes (c : Ctl) :
    c = .dispatch ∨ c = .subDispatch ∨ c = .top ∨ c.isWait = true ∨ c = .settle ∨ c = .subSettle ∨
      c.isReceive = true ∨ c.isSend = true ∨ c = .inqPoll := by
  cases c <;> simp [Ctl.isWait, Ctl.isReceive, Ctl.isSend]

theorem isWait_cases {c : Ctl} (h : c.isWait = true) :
    c = .idle ∨ c = .waitReady ∨ c = .subIdle ∨ c = .subWaitReady := by
  cases c <;> simp_all [Ctl.isWait]

theorem isReceive_cases {c : Ctl} (h : c.isReceive = true) : c = .rx ∨ c = .subRx := by
  cases c <;> simp_all [Ctl.isReceive]

theorem isSend_cases {c : Ctl} (h : c.isSend = true) : c = .txAnswer ∨ c = .txKeypad := by
  cases c <;> simp_all [Ctl.isSend]

/-! The step where it is known which rule applies. -/

theorem step_waitEnds (h : s.ctl.isWait = true) (hd : s.dataDir = .input) (hw : wireData (tick s) = awaited s.ctl) :
    step s = .next (arrive (goto (afterWait s.ctl) (tick s))) := by
  rw [step_wait h]
  simp [waitData, readData, hd, hw, andThen]

theorem step_waitPolls (h : s.ctl.isWait = true) (hd : s.dataDir = .input)
    (hw : wireData (tick s) ≠ awaited s.ctl) : step s = .next (pollWait (tick s)) := by
  rw [step_wait h]
  have : arrive (pollWait (tick s)) = pollWait (tick s) := by
    refine arrive_plain ?_ ?_ ?_ <;>
      rcases isWait_cases h with h | h | h | h <;> simp [h, Ctl.isSettle, Ctl.isReceive, Ctl.isSend]
  simp [waitData, readData, hd, hw, andThen, this]

theorem step_unknown (h : s.ctl = .dispatch) (h₁ : s.op ≠ 0x10) (h₂ : s.op ≠ 0x14) (h₃ : s.op ≠ 0x16)
    (h₄ : s.op ≠ 0x36) : step s = .next (goto .top s) := by
  rw [step_dispatch h, decodeUnit, decodeMain_unknown h₁ h₂ h₃ h₄]
  rfl

theorem step_subDrop (h : s.ctl = .subDispatch) (h' : s.op ≠ 0x14) : step s = .next (goto .top s) := by
  rw [step_subDispatch h, decodeUnit, decodeSub_drop h']
  rfl

theorem not_settle_of_receive (h : s.ctl.isReceive = true) : s.ctl.isSettle = false := by
  rcases isReceive_cases h with h | h <;> simp [h, Ctl.isSettle]

theorem not_settle_of_send (h : s.ctl.isSend = true) : s.ctl.isSettle = false := by
  rcases isSend_cases h with h | h <;> simp [h, Ctl.isSettle]

/-- The rows of a receive after the entry row (41_bit_transceiver R130). -/
theorem step_rxLow (h : s.ctl.isReceive = true) (hp : s.phase = .rxLow) :
    step s = .next (rxClockHigh (tick (endHold s))) := by
  have : arrive (rxClockHigh (tick (endHold s))) = rxClockHigh (tick (endHold s)) :=
    arrive_frame (by simpa using not_settle_of_receive h) (by simp)
  rw [step_receive h]
  simp [stepReceive, hp, andThen, this]

theorem step_rxHigh (h : s.ctl.isReceive = true) (hp : s.phase = .rxHigh) (hd : s.dataDir = .input) :
    step s = .next (rxFold (wireData (tick (endHold s))) (tick (endHold s))) := by
  have : arrive (rxFold (wireData (tick (endHold s))) (tick (endHold s))) =
      rxFold (wireData (tick (endHold s))) (tick (endHold s)) :=
    arrive_frame (by simpa using not_settle_of_receive h) (by simp)
  rw [step_receive h]
  simp [stepReceive, hp, readData, hd, andThen, this]

theorem step_rxPost (h : s.ctl.isReceive = true) (hp : s.phase = .rxPost) (hb : s.bitcnt < 8) :
    step s = .next (rxClockLow (tick (endHold s))) := by
  have : arrive (rxClockLow (tick (endHold s))) = rxClockLow (tick (endHold s)) :=
    arrive_frame (by simpa using not_settle_of_receive h) (by simp)
  rw [step_receive h]
  simp [stepReceive, hp, hb, andThen, this]

theorem step_rxEnd (h : s.ctl.isReceive = true) (hp : s.phase = .rxPost) (hb : s.bitcnt = 8) :
    step s = .next (goto (afterReceive s.ctl) (setPhase .none { tick (endHold s) with op := s.acc })) := by
  rw [step_receive h]
  rcases isReceive_cases h with h | h <;> simp [stepReceive, hp, hb, andThen, arrive, afterReceive, h]

/-- The rows of a send after the entry row (41_bit_transceiver R131). -/
theorem step_txSetup (h : s.ctl.isSend = true) (hp : s.phase = .txSetup) :
    step s = .next (txClockLow (tick (endHold s))) := by
  have : arrive (txClockLow (tick (endHold s))) = txClockLow (tick (endHold s)) :=
    arrive_frame (by simpa using not_settle_of_send h) (by simp)
  rw [step_send h]
  simp [stepSend, hp, andThen, this]

theorem step_txLow (h : s.ctl.isSend = true) (hp : s.phase = .txLow) :
    step s = .next (txClockHigh (tick (endHold s))) := by
  have : arrive (txClockHigh (tick (endHold s))) = txClockHigh (tick (endHold s)) :=
    arrive_frame (by simpa using not_settle_of_send h) (by simp)
  rw [step_send h]
  simp [stepSend, hp, andThen, this]

theorem step_txHigh (h : s.ctl.isSend = true) (hp : s.phase = .txHigh) (hb : 1 < s.bitcnt)
    (hd : s.dataDir = .output) :
    step s = .next (txBeginSetup
      { tick (endHold s) with bitcnt := s.bitcnt - 1, dataOut := txBit s.tx (s.bitcnt - 1) }) := by
  rw [step_send h]
  simp only [stepSend, tick_phase, hp, hb, if_true, setData, endHold_dataDir, tick_dataDir, hd,
    andThen, tick_tx]
  exact congrArg _ (arrive_frame (by simpa using not_settle_of_send h) (by simp))

theorem step_txEnd (h : s.ctl.isSend = true) (hp : s.phase = .txHigh) (hb : s.bitcnt = 1) :
    step s = .next (goto (afterSend s.ctl)
      (setPhase .none (setDataDirection .input { tick (endHold s) with bitcnt := 0 }))) := by
  rw [step_send h]
  rcases isSend_cases h with h | h <;> simp [stepSend, hp, hb, andThen, arrive, afterSend, h]

/-! Everything a step can do, said once. -/

/-- The steps from `s` to `t`: one case for each rule that a step may apply. -/
inductive StepTo (s t : State) : Prop
  | inquiry (hc : s.ctl = .dispatch) (ho : s.op = 0x10) (ht : t = { s with tEntry := s.now, ctl := .inqPoll })
  | instant (hc : s.ctl = .dispatch) (ho : s.op = 0x14)
      (ht : t = arrive (sendAt .txAnswer (instantAnswer (s.takeAt 0)) (taken s)))
  | modelNumber (hc : s.ctl = .dispatch) (ho : s.op = 0x16) (ht : t = arrive (sendAt .txAnswer rspModel s))
  | test (hc : s.ctl = .dispatch) (ho : s.op = 0x36) (ht : t = arrive (sendAt .txAnswer rspTest s))
  | unknown (hc : s.ctl = .dispatch)
      (ho : s.op ≠ 0x10 ∧ s.op ≠ 0x14 ∧ s.op ≠ 0x16 ∧ s.op ≠ 0x36) (ht : t = goto .top s)
  | subInstant (hc : s.ctl = .subDispatch) (ho : s.op = 0x14)
      (ht : t = arrive (sendAt .txAnswer (translateMarker s.cfg s.marker) s))
  | subDrop (hc : s.ctl = .subDispatch) (ho : s.op ≠ 0x14) (ht : t = goto .top s)
  | top (hc : s.ctl = .top) (ht : t = goto .idle (setDataDirection .input (tick s)))
  | waitEnds (hc : s.ctl.isWait = true) (hd : s.dataDir = .input) (hw : wireData (tick s) = awaited s.ctl)
      (ht : t = arrive (goto (afterWait s.ctl) (tick s)))
  | waitPolls (hc : s.ctl.isWait = true) (hd : s.dataDir = .input) (hw : wireData (tick s) ≠ awaited s.ctl)
      (ht : t = pollWait (tick s))
  | settle (hc : s.ctl = .settle) (ht : t = arrive (goto .rx (tick (endHold s))))
  | subSettle (hc : s.ctl = .subSettle) (ht : t = arrive (goto .subRx (tick (endHold s))))
  | rxEnter (hc : s.ctl.isReceive = true) (hp : s.phase = .none) (ht : t = rxEntry (tick s))
  | rxRise (hc : s.ctl.isReceive = true) (hp : s.phase = .rxLow) (ht : t = rxClockHigh (tick (endHold s)))
  | rxSample (hc : s.ctl.isReceive = true) (hp : s.phase = .rxHigh) (hd : s.dataDir = .input)
      (ht : t = rxFold (wireData (tick (endHold s))) (tick (endHold s)))
  | rxNext (hc : s.ctl.isReceive = true) (hp : s.phase = .rxPost) (hb : s.bitcnt < 8)
      (ht : t = rxClockLow (tick (endHold s)))
  | rxEnd (hc : s.ctl.isReceive = true) (hp : s.phase = .rxPost) (hb : s.bitcnt = 8)
      (ht : t = goto (afterReceive s.ctl) (setPhase .none { tick (endHold s) with op := s.acc }))
  | txEnter (hc : s.ctl.isSend = true) (hp : s.phase = .none) (ht : t = txEntry (tick s))
  | txFall (hc : s.ctl.isSend = true) (hp : s.phase = .txSetup) (ht : t = txClockLow (tick (endHold s)))
  | txRise (hc : s.ctl.isSend = true) (hp : s.phase = .txLow) (ht : t = txClockHigh (tick (endHold s)))
  | txNext (hc : s.ctl.isSend = true) (hp : s.phase = .txHigh) (hb : 1 < s.bitcnt) (hd : s.dataDir = .output)
      (ht : t = txBeginSetup
        { tick (endHold s) with bitcnt := s.bitcnt - 1, dataOut := txBit s.tx (s.bitcnt - 1) })
  | txEnd (hc : s.ctl.isSend = true) (hp : s.phase = .txHigh) (hb : s.bitcnt = 1)
      (ht : t = goto (afterSend s.ctl)
        (setPhase .none (setDataDirection .input { tick (endHold s) with bitcnt := 0 })))
  | inqMarker (b : Byte) (hc : s.ctl = .inqPoll) (hk : s.takeAt 0 = some b) (hm : isMarker s.cfg b = true)
      (ht : t = arrive (sendAt .txKeypad rspKeypad { taken (tick s) with marker := b }))
  | inqKey (b : Byte) (hc : s.ctl = .inqPoll) (hk : s.takeAt 0 = some b) (hm : isMarker s.cfg b = false)
      (ht : t = arrive (sendAt .txAnswer b (taken (tick s))))
  | inqDeadline (hc : s.ctl = .inqPoll) (hk : s.takeAt 0 = none) (hd : inquiryTimeoutUs ≤ s.now - s.tEntry)
      (ht : t = arrive (sendAt .txAnswer rspNoKey (taken (tick s))))
  | inqPolls (hc : s.ctl = .inqPoll) (hk : s.takeAt 0 = none) (hd : s.now - s.tEntry < inquiryTimeoutUs)
      (ht : t = pollWait (taken (tick s)))

/-- If a step answers a next state, one of those cases holds. -/
theorem step_next {s t : State} (h : step s = .next t) : StepTo s t := by
  rcases ctl_classes s.ctl with hc | hc | hc | hc | hc | hc | hc | hc | hc
  · rw [step_dispatch hc, decodeUnit] at h
    rcases decodeMain_cases s.op with ⟨ho, hm⟩ | ⟨ho, hm⟩ | ⟨ho, hm⟩ | ⟨ho, hm⟩ | ⟨h₁, h₂, h₃, h₄, hm⟩ <;>
      rw [hm] at h <;> cases h
    · exact .inquiry hc ho rfl
    · exact .instant hc ho rfl
    · exact .modelNumber hc ho rfl
    · exact .test hc ho rfl
    · exact .unknown hc ⟨h₁, h₂, h₃, h₄⟩ rfl
  · rw [step_subDispatch hc, decodeUnit] at h
    rcases decodeSub_cases s.op with ⟨ho, hm⟩ | ⟨ho, hm⟩ <;> rw [hm] at h <;> cases h
    · exact .subInstant hc ho rfl
    · exact .subDrop hc ho rfl
  · rw [step_top hc] at h
    cases h
    exact .top hc rfl
  · rw [step_wait hc] at h
    obtain ⟨u, hu, rfl⟩ := andThen_next.1 h
    obtain ⟨hd, ⟨hw, rfl⟩ | ⟨hw, rfl⟩⟩ := waitData_next.1 hu
    · exact .waitEnds hc hd hw rfl
    · refine .waitPolls hc hd hw (arrive_plain ?_ ?_ ?_) <;>
        rcases isWait_cases hc with h | h | h | h <;> simp [h, Ctl.isSettle, Ctl.isReceive, Ctl.isSend]
  · rw [step_settle hc] at h
    cases h
    exact .settle hc rfl
  · rw [step_subSettle hc] at h
    cases h
    exact .subSettle hc rfl
  · rw [step_receive hc] at h
    obtain ⟨u, hu, rfl⟩ := andThen_next.1 h
    have hl : s.ctl.isSettle = false := by rcases isReceive_cases hc with h | h <;> simp [h, Ctl.isSettle]
    have hn := stepReceive_next hu
    simp only [tick_phase, tick_dataDir, tick_bitcnt] at hn
    rcases hn with ⟨hp, rfl⟩ | ⟨hp, rfl⟩ | ⟨hp, hd, rfl⟩ | ⟨hp, hb, rfl⟩ | ⟨hp, hb, rfl⟩
    · exact .rxEnter hc hp (arrive_receive (by simpa using hc) (by simpa using hp))
    · exact .rxRise hc hp (arrive_frame (by simpa using hl) (by simp))
    · exact .rxSample hc hp hd (arrive_frame (by simpa using hl) (by simp))
    · exact .rxNext hc hp hb (arrive_frame (by simpa using hl) (by simp))
    · refine .rxEnd hc hp hb (arrive_plain ?_ ?_ ?_) <;>
        rcases isReceive_cases hc with h | h <;>
          simp [h, afterReceive, Ctl.isSettle, Ctl.isReceive, Ctl.isSend]
  · rw [step_send hc] at h
    obtain ⟨u, hu, rfl⟩ := andThen_next.1 h
    have hl : s.ctl.isSettle = false := by rcases isSend_cases hc with h | h <;> simp [h, Ctl.isSettle]
    have hn := stepSend_next hu
    simp only [tick_phase, tick_dataDir] at hn
    rcases hn with ⟨hp, rfl⟩ | ⟨hp, rfl⟩ | ⟨hp, rfl⟩ | ⟨hp, hb, hd, rfl⟩ | ⟨hp, hb, rfl⟩
    · exact .txEnter hc hp (arrive_send (by simpa using hc) (by simpa using hp))
    · exact .txFall hc hp (arrive_frame (by simpa using hl) (by simp))
    · exact .txRise hc hp (arrive_frame (by simpa using hl) (by simp))
    · exact .txNext hc hp hb hd (arrive_frame (by simpa using hl) (by simp))
    · refine .txEnd hc hp hb (arrive_plain ?_ ?_ ?_) <;>
        rcases isSend_cases hc with h | h <;> simp [h, afterSend, Ctl.isSettle, Ctl.isReceive, Ctl.isSend]
  · rw [step_inqPoll hc] at h
    cases h
    rcases inquiryPoll_cases (tick s) with ⟨b, hk, hm, ht⟩ | ⟨b, hk, hm, ht⟩ | ⟨hk, hd, ht⟩ | ⟨hk, hd, ht⟩ <;>
      rw [ht]
    · exact .inqMarker b hc hk hm rfl
    · exact .inqKey b hc hk hm rfl
    · exact .inqDeadline hc hk hd rfl
    · exact .inqPolls hc hk hd
        (arrive_plain (by simp [hc, Ctl.isSettle]) (by simp [hc, Ctl.isReceive]) (by simp [hc, Ctl.isSend]))

end Sys2Proof.Machine
end

