-- ==== Sys2Proof/Tests/Slice0.lean ====
section
/-! SUPPORT. Tests: the vectors of spec/95_test_vectors.md under its parameter set TP, and for each statement with
hypotheses a witness that meets them. -/

namespace Sys2Proof.Tests

open Sys2Proof Sys2Proof.Machine

/-! Helpers. -/

/-- The test parameter set TP of 95_test_vectors (a test choice, not the device's values). -/
def TP : Params where
  settleUs := 300
  subSettleUs := 300
  rxLowUs := 180
  rxSampleUs := 80
  rxPostUs := 140
  txSetupUs := 40
  txLowUs := 160
  txHighUs := 170
  pollMaxUs := 10
  markers := ⟨⟨0xF0, 0xF1⟩, ⟨0xF2, 0xF3⟩, ⟨0xF4, 0xF5⟩, ⟨0xF6, 0xF7⟩⟩
  codes := ⟨0x1B, 0x11, 0x0D, 0x05⟩

/-- TP with HOLD_TOL = 0.1. -/
def TPtol : Params := { TP with tolNum := 1, tolDen := 10, tol_lt_one := by decide }

/-- TP with SUB_SETTLE_US = 0. -/
def TPsub0 : Params := { TP with subSettleUs := 0 }

/-- The engine at a label, right after reset otherwise, with TP and a raw draw of 0 first. -/
def atLabel (c : Ctl) : State := { State.reset with ctl := c, cfg := TP, draws := [0, 0] }

/-- At a dispatch label with a received unit. -/
def atDispatch (c : Ctl) (u : Byte) : State := { atLabel c with op := u }

/-- At a wait label 10 µs after a sample that read the other level, with a host that gives the awaited level at the
raw draw `raw` in those 10 µs. -/
def polled (c : Ctl) (raw : Nat) : State :=
  { atLabel c with
    now := 1010, lastMove := 1000, hostSince := 900, hostDrive := some !(awaited c)
    hostMoves := [some (awaited c)], moveDraws := [raw] }

/-- In a row of a receive. -/
def inReceive (p : Phase) (n : Nat) : State := { atLabel .rx with phase := p, bitcnt := n, clk := p != .rxLow }

/-- In a row of a send of 0x05. -/
def inSend (p : Phase) (n : Nat) : State :=
  { atLabel .txAnswer with
    phase := p, bitcnt := n, tx := 0x05, clk := p != .txLow, dataDir := .output, dataOut := txBit 0x05 n }

/-- In the poll loop of an Inquiry entered at 0. -/
def polling (t : Nat) (k : Option Byte) : State :=
  { atLabel .inqPoll with now := t, lastMove := t, takes := [k, some 0x33] }

/-- The state a step answers. -/
def nextOf : Res → Option State
  | .next s => some s
  | .fault _ => none
  | .refused _ => none

/-- The fault a step answers. -/
def faultOf : Res → Option Fault
  | .next _ => none
  | .fault e => some e
  | .refused _ => none

/-- What a host that sends `u` with its duties drives, and then nothing. -/
def hostScript (u : Byte) : List (Option Bit) :=
  [some false, some false] ++ (msbFirst u).flatMap (fun b => [some b, some b, some b]) ++ List.replicate 60 none

/-- Quiescent, with a host that is about to send `u`. -/
def quiet (u : Byte) : State := { atLabel .idle with hostMoves := hostScript u }

/-- The wait of the sub-exchange after the marker Up press, with a host that is about to send `u`. -/
def subWaiting (u : Byte) : State :=
  { atLabel .subIdle with marker := 0xF0, hostMoves := hostScript u }

/-- A send of `v` whose entry row has just run. -/
def sending (c : Ctl) (v : Byte) : State :=
  { atLabel c with
    phase := .txSetup, bitcnt := 8, tx := v, dataDir := .output, dataOut := v.getLsbD 7, tHoldEnd := 40 }

/-- A receive whose entry row has just run. -/
def receiving (c : Ctl) : State := { atLabel c with phase := .rxLow, clk := false, tHoldEnd := 180 }

/-! WellFormed: the ill-formed terms (30_encoding R75, R76). -/

theorem test_wf_refuses_unknown_opcodes :
    (Instr.unknown 0x10).wf = false ∧ (Instr.unknown 0x14).wf = false ∧ (Instr.unknown 0x16).wf = false ∧
    (Instr.unknown 0x36).wf = false ∧ (Instr.unknown 0x79).wf = true := by decide

theorem test_wf_refuses_subDrop_instant :
    (Instr.subDrop 0x14).wf = false ∧ (Instr.subDrop 0x10).wf = true := by decide

/-! Decode: the words of 30_encoding R74 to R76, bit 7 first. -/

theorem test_decode_inquiry : decodeUnit .main 0b00010000 = .inquiry := by decide
theorem test_decode_instant : decodeUnit .main 0b00010100 = .instant := by decide
theorem test_decode_modelNumber : decodeUnit .main 0b00010110 = .modelNumber := by decide
theorem test_decode_test : decodeUnit .main 0b00110110 = .test := by decide
/-- R75: a value the engine sends is no command; 0xFF is the frame of a silent host (R161). -/
theorem test_decode_unknown :
    decodeUnit .main 0b01111001 = .unknown 0x79 ∧ decodeUnit .main 0b11111111 = .unknown 0xFF := by decide
theorem test_decode_subInstant : decodeUnit .sub 0b00010100 = .subInstant := by decide
theorem test_decode_subDrop :
    decodeUnit .sub 0b00010000 = .subDrop 0x10 ∧ decodeUnit .sub 0b00110110 = .subDrop 0x36 := by decide
/-- Vector D-8: the one-bit neighbours of the opcodes are unknown. -/
theorem test_decode_neighbours :
    ([0x00, 0x04, 0x06, 0x11, 0x12, 0x15, 0x17, 0x18, 0x1C, 0x1E, 0x26, 0x30, 0x32, 0x34, 0x37, 0x3E, 0x50, 0x54,
      0x56, 0x76, 0x90, 0x94, 0x96, 0xB6] : List Byte).all (fun u => decodeMain u == .unknown u) = true := by decide
theorem test_decode_length :
    decodeUnits .main [] = .error .noUnit ∧ decodeUnits .sub [0x14, 0x00] = .error .moreThanOneUnit := ⟨rfl, rfl⟩
theorem test_decodeTableWord :
    decodeTableWord 8 0x10 = some .inquiry ∧ decodeTableWord 8 0x36 = some .test ∧
    decodeTableWord 8 0x00 = some (.unknown 0x00) ∧ decodeTableWord 0 0x10 = none ∧
    decodeTableWord 16 0x10 = none := by decide

/-! Key Translator: vectors KT-1 to KT-11. -/

theorem test_translate_markers :
    ([0xF0, 0xF1, 0xF2, 0xF3, 0xF4, 0xF5, 0xF6, 0xF7] : List Byte).map (translateMarker TP) =
      [0x1B, 0x9B, 0x11, 0x91, 0x0D, 0x8D, 0x05, 0x85] := by decide
theorem test_translate_others :
    ([0x00, 0x1B, 0xF8] : List Byte).map (translateMarker TP) = [0x7B, 0x7B, 0x7B] := by decide

/-! Line Interface: vectors LI-1 to LI-9, LI-12. -/

theorem test_readData :
    readData (atLabel .idle) = .ok true ∧
    readData { atLabel .idle with hostDrive := some false } = .ok false ∧
    readData { atLabel .idle with hostDrive := some true } = .ok true ∧
    readData { atLabel .idle with dataDir := .output } = .error .readDataWhileOutput := ⟨rfl, rfl, rfl, rfl⟩
theorem test_setData_while_input : setData false (atLabel .idle) = .fault .setDataWhileInput := rfl
theorem test_setClock : (setClock false (atLabel .rx)).clk = false := by decide
/-- LI-8: every raw draw gives a duration in 270..330, both ends among them. -/
theorem test_hold_tolerance :
    holdMin TPtol 300 = 270 ∧ holdMax TPtol 300 = 330 ∧ holdDuration TPtol 300 0 = 270 ∧
    holdDuration TPtol 300 60 = 330 ∧ holdDuration TPtol 300 61 = 270 := by decide
/-- LI-8 of `hold` itself: with the draws 0, 60 and 61 it ends 270, 330 and 270 µs after `now`. -/
theorem test_hold_ends_as_drawn :
    ([0, 60, 61].map fun raw =>
      (hold 300 { atLabel .rx with cfg := TPtol, now := 1000, draws := [raw] }).tHoldEnd) = [1270, 1330, 1270] := by
  decide
/-- Rounding of the interval's ends (R105): 0.1 of 75 is 7.5. -/
theorem test_hold_rounding : holdMin TPtol 75 = 68 ∧ holdMax TPtol 75 = 82 := by decide
theorem test_hold_zero : holdDuration TPtol 0 7 = 0 ∧ holdDuration TP 300 7 = 300 := by decide
theorem test_release_pulls_up :
    dataSeenByHost { atLabel .txAnswer with dataDir := .output, dataOut := false } = false ∧
    dataSeenByHost (setDataDirection .input { atLabel .txAnswer with dataDir := .output, dataOut := false }) =
      true := ⟨rfl, rfl⟩
theorem test_poll_period : pollDuration TP 0 = 1 ∧ pollDuration TP 9 = 10 ∧ pollDuration TP 10 = 1 := by decide

/-! Bit Transceiver: vectors RX-1, RX-4, RX-7 to RX-9, TX-1, TX-3, TX-7, TX-10. -/

theorem test_shiftIn :
    ([[false, false, false, true, false, false, false, false], [false, false, true, true, false, true, true, false],
      [true, false, false, false, false, false, false, false], [false, false, false, false, false, false, false, true],
      [true, false, true, false, false, true, false, true]] : List (List Bit)).map (·.foldl shiftIn 0) =
      [0x10, 0x36, 0x80, 0x01, 0xA5] := by decide
theorem test_txBit :
    ([0x05, 0x7B, 0x80, 0x9B] : List Byte).map (fun v => [8, 7, 6, 5, 4, 3, 2, 1].map (txBit v)) =
      [[false, false, false, false, false, true, false, true], [false, true, true, true, true, false, true, true],
       [true, false, false, false, false, false, false, false],
       [true, false, false, true, true, false, true, true]] := by decide
/-- R130, row 1, when the settle hold has ended: Clock falls and the low hold begins. -/
theorem test_receive_entry :
    (nextOf (step { atLabel .settle with acc := 0xFF, tHoldEnd := 300 })).map
      (fun s => ((s.ctl, s.phase, s.clk), s.acc, s.bitcnt, s.now, s.tHoldEnd)) =
      some ((.rx, .rxLow, false), 0, 0, 300, 480) := by decide
/-- R130, row 2, and R121: the high-to-sample hold. -/
theorem test_receive_rise :
    (nextOf (step (receiving .rx))).map (fun s => (s.phase, s.clk, s.now, s.tHoldEnd)) =
      some (.rxHigh, true, 180, 260) := by decide
/-- R130, row 3: the sample is folded in at the end of the hold. -/
theorem test_receive_sample :
    (nextOf (step { inReceive .rxHigh 3 with acc := 0x02, tHoldEnd := 1460, hostMoves := [some true] })).map
      (fun s => (s.phase, s.now, s.acc, s.bitcnt, s.tHoldEnd)) = some (.rxPost, 1460, 0x05, 4, 1600) := by decide
/-- R130, last row. -/
theorem test_receive_end :
    (nextOf (step { inReceive .rxPost 8 with acc := 0x16 })).map (fun s => (s.ctl, s.phase, s.op, s.clk)) =
      some (.waitReady, .none, 0x16, true) := by decide
/-- R131, row 1: OUT and bit 7 in one step, and the setup hold begins. -/
theorem test_send_entry :
    (nextOf (step { atDispatch .dispatch 0x14 with takes := [some 0x80], now := 7 })).map
      (fun s => (s.phase, s.dataDir, s.dataOut, s.bitcnt, s.clk, s.tHoldEnd)) =
      some (.txSetup, .output, true, 8, true, 47) := by decide
/-- R131, rows 2 and 3: the low and the high hold. -/
theorem test_send_holds :
    (nextOf (step (sending .txAnswer 0))).map (fun s => (s.phase, s.clk, s.now, s.tHoldEnd)) =
      some (.txLow, false, 40, 200) ∧
    (nextOf (step { inSend .txLow 8 with tHoldEnd := 200 })).map (fun s => (s.phase, s.clk, s.now, s.tHoldEnd)) =
      some (.txHigh, true, 200, 370) := by decide
/-- R131, row 4, its own example: from bitcnt = 8 to tx[6]. -/
theorem test_send_next_bit :
    (nextOf (step { inSend .txHigh 8 with tx := 0x40 })).map (fun s => (s.phase, s.dataOut, s.bitcnt)) =
      some (.txSetup, true, 7) := by decide
/-- R131, last row: Data is released. -/
theorem test_send_end :
    (nextOf (step (inSend .txHigh 1))).map (fun s => (s.ctl, s.phase, s.dataDir, s.clk)) =
      some (.top, .none, .input, true) := by decide

/-! The dispatcher's labels and the commands: vectors D-2, D-4, D-5, I-1, I-3, I-5, Q-1, Q-3 to Q-5, Q-7, Q-9. -/

theorem test_idle_samples_low :
    (nextOf (step { atLabel .idle with hostMoves := [some false] })).map (fun s => (s.ctl, s.now, s.tHoldEnd)) =
      some (.settle, 0, 300) := by decide
/-- R107's example: Data falls at 1000, or 3 or 10 µs later, and the sample at 1010 sees it. -/
theorem test_start_signal_lag :
    ([0, 3, 10, 11] : List Nat).map
        (fun r => (nextOf (step (polled .idle r))).map fun s => (s.ctl, s.hostSince, s.now)) =
      [some (.settle, 1000, 1010), some (.settle, 1003, 1010), some (.settle, 1010, 1010),
       some (.settle, 1000, 1010)] := by decide
/-- A host that goes on driving the same level has driven it since before. -/
theorem test_same_level_keeps_its_time :
    (tick { polled .idle 3 with hostMoves := [some true] }).hostSince = 900 := by decide
theorem test_idle_polls :
    (nextOf (step { atLabel .idle with hostMoves := [none] })).map (fun s => (s.ctl, s.now)) =
      some (.idle, 1) := by decide
/-- The sub-exchange's settle hold, and one of 0. -/
theorem test_sub_settle_holds :
    (nextOf (step { atLabel .subIdle with hostMoves := [some false] })).map (fun s => (s.ctl, s.tHoldEnd)) =
      some (.subSettle, 300) ∧
    (nextOf (step { atLabel .subSettle with cfg := TPsub0 })).map (fun s => (s.ctl, s.phase, s.now)) =
      some (.subRx, .rxLow, 0) := by decide
theorem test_waitReady_needs_high :
    (nextOf (step { atLabel .waitReady with hostMoves := [some false] })).map State.ctl = some .waitReady ∧
    (nextOf (step { atLabel .waitReady with hostMoves := [none] })).map State.ctl = some .dispatch := by decide
theorem test_model_leaves_the_source :
    (nextOf (step { atDispatch .dispatch 0x16 with takes := [some 0x33] })).map (fun s => (s.ctl, s.tx, s.takes)) =
      some (.txAnswer, 0x05, [some 0x33]) := by decide
theorem test_test_leaves_the_source :
    (nextOf (step { atDispatch .dispatch 0x36 with takes := [some 0xF0] })).map (fun s => (s.ctl, s.tx, s.takes)) =
      some (.txAnswer, 0x7D, [some 0xF0]) := by decide
theorem test_unknown_is_silent :
    (nextOf (step { atDispatch .dispatch 0x00 with takes := [some 0x33] })).map (fun s => (s.ctl, s.takes)) =
      some (.top, [some 0x33]) := by decide
theorem test_instant_takes_one :
    (nextOf (step { atDispatch .dispatch 0x14 with takes := [some 0x33, some 0x44] })).map
      (fun s => (s.ctl, s.tx, s.takes)) = some (.txAnswer, 0x33, [some 0x44]) := by decide
theorem test_instant_sends_a_raw_marker :
    (nextOf (step { atDispatch .dispatch 0x14 with takes := [some 0xF0] })).map (fun s => (s.ctl, s.tx)) =
      some (.txAnswer, 0xF0) ∧
    (nextOf (step { atDispatch .dispatch 0x14 with takes := [none] })).map (fun s => (s.ctl, s.tx)) =
      some (.txAnswer, 0x7B) := by decide
theorem test_inquiry_entry :
    (nextOf (step { atDispatch .dispatch 0x10 with now := 3500 })).map (fun s => (s.ctl, s.tEntry)) =
      some (.inqPoll, 3500) := by decide
theorem test_inquiry_keys :
    (nextOf (step (polling 250000 (some 0x33)))).map (fun s => (s.ctl, s.tx)) = some (.txAnswer, 0x33) ∧
    (nextOf (step (polling 0 (some 0xF3)))).map (fun s => (s.ctl, s.tx, s.marker)) =
      some (.txKeypad, 0x79, 0xF3) := by decide
theorem test_inquiry_deadline :
    (nextOf (step (polling 249999 none))).map (fun s => (s.ctl, s.now)) = some (.inqPoll, 250000) ∧
    (nextOf (step (polling 250000 none))).map (fun s => (s.ctl, s.tx)) = some (.txAnswer, 0x7B) := by decide
theorem test_sub_instant :
    (nextOf (step { atDispatch .subDispatch 0x14 with marker := 0xF3, takes := [some 0x33] })).map
      (fun s => (s.ctl, s.tx, s.takes)) = some (.txAnswer, 0x91, [some 0x33]) := by decide
theorem test_sub_drop :
    (nextOf (step { atDispatch .subDispatch 0x10 with marker := 0xF5 })).map State.ctl = some .top ∧
    (nextOf (step { atDispatch .subDispatch 0x16 with marker := 0xF6 })).map State.ctl = some .top := by decide
theorem test_fetch_word :
    ((atLabel .top).withFetchWord 8 0x16).ctl = .dispatch ∧ ((atLabel .top).withFetchWord 8 0x16).op = 0x16 ∧
    ((atLabel .subIdle).withFetchWord 8 0x16).ctl = .subDispatch := by decide

/-! Witnesses: for each statement with hypotheses, values that meet them together. -/

theorem witness_DecodeEncodeRoundTrip :
    Instr.inquiry.wf = true ∧ (Instr.unknown 0x11).wf = true ∧ Instr.subInstant.wf = true ∧
    (Instr.subDrop 0x15).wf = true := by decide

theorem witness_StepRunsTheDispatchedCommand :
    (atDispatch .dispatch 0x16).ctl = .dispatch ∧ (atDispatch .subDispatch 0x16).ctl = .subDispatch := by decide

/-- The four opcodes of the main context, and 0x14 of the sub context, at their dispatch labels. -/
theorem witness_dispatched_opcodes :
    ([0x10, 0x14, 0x16, 0x36] : List Byte).all
      (fun u => decide ((atDispatch .dispatch u).ctl = .dispatch ∧ (atDispatch .dispatch u).op = u)) = true ∧
    (atDispatch .subDispatch 0x14).ctl = .subDispatch ∧ (atDispatch .subDispatch 0x14).op = 0x14 := by decide

theorem witness_InstantAnswersWhatItTakes :
    (polling 0 (some 0xFF)).takeAt 0 = some 0xFF ∧ (polling 0 none).takeAt 0 = none ∧
    (nextOf (exec .instant (polling 0 none))).isSome = true := by decide

theorem witness_UnknownOpcodeReturnsToTheTop :
    (atDispatch .dispatch 0x11).ctl = .dispatch ∧ (atDispatch .dispatch 0x11).op = 0x11 ∧
    (0x11 : Byte) ≠ 0x10 ∧ (0x11 : Byte) ≠ 0x14 ∧ (0x11 : Byte) ≠ 0x16 ∧ (0x11 : Byte) ≠ 0x36 := by decide

theorem witness_SubInstantAnswersTheArrowCode :
    (subWaiting 0x14).marker = (subWaiting 0x14).cfg.arrowMarker .up .press ∧
    (0xF7 : Byte) = TP.arrowMarker .right .release ∧
    EngineInv { atDispatch .subDispatch 0x14 with marker := 0xF0 } := by decide

theorem witness_SubDropReturnsToTheTop :
    (atDispatch .subDispatch 0x15).ctl = .subDispatch ∧ (atDispatch .subDispatch 0x15).op = 0x15 ∧
    (0x15 : Byte) ≠ 0x14 := by decide

theorem witness_TranslateFollowsItsTable : ∀ d e, (0x1B : Byte) ≠ TP.arrowMarker d e := by
  intro d e; cases d <;> cases e <;> decide

theorem witness_TranslateGivesTheDirectionCode :
    translateMarker TP (TP.arrowMarker .left .release) = translateMarker TP (TP.arrowMarker .left .release) ∧
    (0 : Nat) < 7 ∧ (6 : Nat) < 7 := by decide

theorem witness_TranslateOutsideTheMarkersIsNoKey :
    (∀ d e, (0xF8 : Byte) ≠ TP.arrowMarker d e) ∧
    EngineInv { atDispatch .subDispatch 0x10 with marker := 0xF7 } :=
  ⟨by intro d e; cases d <;> cases e <;> decide, by decide⟩

theorem witness_line_directions :
    (atLabel .idle).dataDir = .input ∧ (atLabel .idle).hostDrive = none ∧
    ({ atLabel .idle with hostDrive := some false } : State).hostDrive = some false ∧
    (inSend .txLow 8).dataDir = .output ∧ (inSend .txLow 8).hostDrive = none := by decide

/-- LI-8's interval, at both ends: 270 and 330 for D = 300; and a tolerance of 0. -/
theorem witness_HoldLastsWithinItsTolerance :
    300 * (TPtol.tolDen - TPtol.tolNum) ≤ 270 * TPtol.tolDen ∧
    270 * TPtol.tolDen ≤ 300 * (TPtol.tolDen + TPtol.tolNum) ∧
    300 * (TPtol.tolDen - TPtol.tolNum) ≤ 330 * TPtol.tolDen ∧
    330 * TPtol.tolDen ≤ 300 * (TPtol.tolDen + TPtol.tolNum) ∧ TP.tolNum = 0 := by decide

/-- A step that answers a next state, for the statements about every such step. -/
theorem witness_step_answers :
    step (atLabel .top) = .next (goto .idle (setDataDirection .input (tick (atLabel .top)))) := rfl

theorem witness_TopReleasesData : (atLabel .top).ctl = .top := rfl

/-- Every wait label, with the level it waits for and with the other. -/
theorem witness_WaitLabelsPollTheirLevel :
    ([.idle, .waitReady, .subIdle, .subWaitReady] : List Ctl).all (fun c =>
      decide ((atLabel c).ctl.isWait = true ∧ (atLabel c).dataDir = .input ∧
        levelOf ({ atLabel c with hostMoves := [some (awaited c)] }.hostAt 0) = awaited c ∧
        levelOf ({ atLabel c with hostMoves := [some !(awaited c)] }.hostAt 0) ≠ awaited c)) = true := by decide

theorem witness_HostMovesAtAnyTimeSinceTheLastStep :
    (polled .idle 3).lastMove ≤ (polled .idle 3).now ∧ (polled .idle 3).hostAt 0 ≠ (polled .idle 3).hostDrive ∧
    (quiet 0x14).lastMove ≤ (quiet 0x14).now ∧
    ({ polled .idle 3 with hostMoves := [some true] } : State).hostAt 0 = (polled .idle 3).hostDrive := by decide

/-- Both clauses, at the wait for the start signal and at the wait for the ready signal. -/
theorem witness_WaitEndsWithinAPollPeriodOfTheChange :
    ([.idle, .waitReady, .subIdle, .subWaitReady] : List Ctl).all (fun c =>
      decide ((polled c 0).ctl.isWait = true ∧ wireData (polled c 0) ≠ awaited c ∧
        levelOf ((polled c 0).hostAt 0) = awaited c ∧ (polled c 0).dataDir = .input ∧ 10 ≤ (polled c 0).cfg.pollMaxUs ∧
        levelOf (({ polled c 0 with hostMoves := [some !(awaited c), some (awaited c)] } : State).hostAt 0) ≠
          awaited c ∧
        levelOf (({ polled c 0 with hostMoves := [some !(awaited c), some (awaited c)] } : State).hostAt 1) =
          awaited c)) = true ∧
    EngineInv (polled .idle 0) ∧ EngineInv (polled .waitReady 0) :=
  ⟨by decide, by decide, by decide⟩

theorem witness_StartSignalToFirstClockFall :
    EngineInv (polled .idle 0) ∧ wireData (polled .idle 0) = true ∧ levelOf ((polled .idle 0).hostAt 0) = false ∧
    EngineInv { polled .subIdle 10 with marker := 0xF0 } ∧ (polled .subIdle 10).ctl = .subIdle :=
  ⟨by decide, by decide, by decide, by decide, rfl⟩

theorem witness_BlockedWaitNeverEnds :
    (atLabel .waitReady).ctl.isWait = true ∧
    ∀ k, k < 3 → levelOf
      (({ atLabel .waitReady with hostMoves := List.replicate 3 (some false) } : State).hostAt k) ≠ true := by decide

/-- Each kind of label, a frame not yet entered, and a frame entered. -/
theorem witness_ArrivingBeginsTheHoldOrTheFrame :
    (atLabel .settle).ctl = .settle ∧ (atLabel .subSettle).ctl = .subSettle ∧
    (atLabel .subRx).ctl.isReceive = true ∧ (atLabel .subRx).phase = .none ∧
    (atLabel .txKeypad).ctl.isSend = true ∧ (atLabel .txKeypad).phase = .none ∧
    (atLabel .top).ctl.isSettle = false ∧ (inSend .txLow 1).ctl.isSend = true ∧
    (inSend .txLow 1).phase ≠ .none := by decide

theorem witness_settle_labels :
    (quiet 0x14).ctl = .idle ∧ (quiet 0x14).phase = .none ∧ (quiet 0x14).dataDir = .input ∧
    levelOf ((quiet 0x14).hostAt 0) = false ∧
    (subWaiting 0x14).ctl = .subIdle ∧ (subWaiting 0x14).phase = .none ∧ (subWaiting 0x14).dataDir = .input ∧
    levelOf ((subWaiting 0x14).hostAt 0) = false ∧ TPsub0.subSettleUs = 0 := by decide

/-- The four clauses, the last two at the deadline and one µs before it. -/
theorem witness_InquiryPollTakesBeforeTheDeadline :
    (polling 0 (some 0xF8)).takeAt 0 = some 0xF8 ∧ isMarker TP 0xF8 = false ∧
    (polling 0 (some 0xF7)).takeAt 0 = some 0xF7 ∧ isMarker TP 0xF7 = true ∧
    (polling 250000 none).takeAt 0 = none ∧
    250000 ≤ (tick (polling 250000 none)).now - (polling 250000 none).tEntry ∧
    (tick (polling 249999 none)).now - (polling 249999 none).tEntry < 250000 := by decide

/-- Each row after the entry row, at the first and the last bit it is run for. -/
theorem witness_ReceiveRowsHoldTheirIntervals :
    (inReceive .rxLow 0).ctl.isReceive = true ∧ (inReceive .rxLow 0).phase = .rxLow ∧
    (inReceive .rxHigh 7).phase = .rxHigh ∧ (inReceive .rxHigh 7).dataDir = .input ∧
    (inReceive .rxPost 7).phase = .rxPost ∧ (inReceive .rxPost 7).bitcnt < 8 ∧
    (inReceive .rxPost 8).phase = .rxPost ∧ (inReceive .rxPost 8).bitcnt = 8 := by decide

theorem witness_SendRowsHoldTheirIntervals :
    (inSend .txSetup 8).ctl.isSend = true ∧ (inSend .txSetup 8).phase = .txSetup ∧
    (inSend .txLow 8).phase = .txLow ∧ (inSend .txHigh 2).phase = .txHigh ∧ 1 < (inSend .txHigh 2).bitcnt ∧
    (inSend .txHigh 2).dataDir = .output ∧ (inSend .txHigh 1).phase = .txHigh ∧ (inSend .txHigh 1).bitcnt = 1 := by
  decide

theorem witness_receive_frames :
    BeginsReceive (receiving .rx) ∧ BeginsReceive (receiving .subRx) ∧ (receiving .rx).cfg.tolNum = 0 := by decide

theorem witness_send_frames :
    BeginsSend (sending .txAnswer 0x05) ∧ BeginsSend (sending .txKeypad 0x79) ∧
    HostListens 0 { sending .txAnswer 0x05 with hostMoves := List.replicate 30 none } := by decide

/-- A sender of 0xA5 and a receiver that samples what it shows (RX-9). -/
def sender : State := { sending .txAnswer 0xA5 with hostMoves := List.replicate 30 none }

def receiver : State :=
  { receiving .rx with hostMoves := (msbFirst 0xA5).flatMap fun b => [none, some b, none] }

theorem witness_ReceivingASentFrameGivesItsUnit :
    BeginsSend sender ∧ HostListens 0 sender ∧ BeginsReceive receiver ∧
    ∀ k, k < 8 → (hostReads 24 sender)[k]? = some (levelOf (receiver.hostAt (3 * k + 1))) := by decide

/-- The invariant holds at a label of each class and in each phase. -/
theorem witness_EngineInv :
    EngineInv (atLabel .top) ∧ EngineInv (atLabel .idle) ∧ EngineInv (atLabel .settle) ∧
    EngineInv (atDispatch .dispatch 0x14) ∧ EngineInv (inReceive .rxLow 0) ∧ EngineInv (inReceive .rxHigh 7) ∧
    EngineInv (inReceive .rxPost 8) ∧ EngineInv (inSend .txSetup 8) ∧ EngineInv (inSend .txLow 1) ∧
    EngineInv (inSend .txHigh 1) ∧ EngineInv (polling 250009 none) ∧ EngineInv (subWaiting 0x14) :=
  ⟨by decide, by decide, by decide, by decide, by decide, by decide, by decide, by decide, by decide, by decide,
    by decide, by decide⟩

/-- A step from a state of the invariant that answers a next state. -/
theorem witness_StepKeepsInv :
    EngineInv (inSend .txHigh 1) ∧ (nextOf (step (inSend .txHigh 1))).isSome = true := by decide

/-- A label outside a frame, one of each kind inside, and a step that enters a frame. -/
theorem witness_PhaseIsNoneExactlyOutsideAFrame :
    EngineInv (atLabel .idle) ∧ (atLabel .idle).phase = .none ∧ EngineInv (inReceive .rxPost 8) ∧
    EngineInv (inSend .txSetup 8) ∧ PhaseFits (atDispatch .dispatch 0x16) ∧
    (nextOf (step (atDispatch .dispatch 0x16))).map State.phase = some .txSetup :=
  ⟨by decide, rfl, by decide, by decide, by decide, by decide⟩

theorem witness_ClockFallsOnlyInsideAFrame :
    EngineInv (inSend .txSetup 1) ∧ (inSend .txSetup 1).clk = true ∧
    (nextOf (step (inSend .txSetup 1))).map State.clk = some false ∧
    (atLabel .idle).ctl.isReceive = false ∧ (atLabel .idle).ctl.isSend = false := by decide

theorem witness_DataIsDrivenOnlyWhileSending :
    EngineInv (inSend .txHigh 8) ∧ (inSend .txHigh 8).dataDir = .output ∧
    EngineInv (subWaiting 0x14) ∧ (subWaiting 0x14).ctl.isWait = true ∧
    (atDispatch .dispatch 0x36).dataDir = .input ∧
    (nextOf (step (atDispatch .dispatch 0x36))).map State.dataDir = some .output :=
  ⟨by decide, rfl, by decide, rfl, rfl, by decide⟩

theorem witness_MisplacedPhaseFaults :
    (inReceive .txHigh 1).ctl.isReceive = true ∧ (inReceive .txHigh 1).phase.isSend = true ∧
    (inSend .rxPost 8).ctl.isSend = true ∧ (inSend .rxPost 8).phase.isReceive = true ∧
    faultOf (step (inReceive .txHigh 1)) = some .badLabel := by decide

/-- A step into the sub context, one out of it, and one within it. -/
theorem witness_SubContextIsOneLevel :
    contextOf (polling 0 (some 0xF0)).ctl = .main ∧
    (nextOf (step (polling 0 (some 0xF0)))).map (fun t => contextOf t.ctl) = some .sub ∧
    contextOf (atDispatch .subDispatch 0x14).ctl = .sub ∧
    (nextOf (step (atDispatch .subDispatch 0x14))).map (fun t => contextOf t.ctl) = some .main ∧
    (nextOf (step (subWaiting 0x14))).map (fun t => contextOf t.ctl) = some .sub := by decide

/-- A step for each branch: a poll, an Instant, a step that does not take, ModelNumber and Test. -/
theorem witness_OnlyInstantAndInquiryTake :
    (nextOf (step (polling 0 none))).isSome = true ∧
    (nextOf (step (atDispatch .dispatch 0x14))).isSome = true ∧ (atDispatch .dispatch 0x14).op = 0x14 ∧
    (nextOf (step (atDispatch .subDispatch 0x14))).isSome = true ∧
    (nextOf (step (atDispatch .dispatch 0x16))).isSome = true ∧
    (nextOf (step (atDispatch .dispatch 0x36))).isSome = true := by decide

theorem witness_AnswersComeFromTheirRules :
    (atDispatch .dispatch 0x16).ctl.isSend = false ∧
    (nextOf (step (atDispatch .dispatch 0x16))).map (fun t => t.ctl.isSend) = some true := by decide

/-- A step that changes each register, for each clause. -/
theorem witness_RegistersChangeOnlyAtTheirRules :
    (nextOf (step (atDispatch .dispatch 0x16))).map (fun t => (t.phase, t.bitcnt)) = some (.txSetup, 8) ∧
    (nextOf (step { inReceive .rxHigh 7 with hostMoves := [none] })).map (fun t => decide (t.acc ≠ 0)) = some true ∧
    (nextOf (step { inReceive .rxPost 8 with acc := 1 })).map (fun t => decide (t.op ≠ 0)) = some true ∧
    (nextOf (step (atDispatch .dispatch 0x16))).map (fun t => decide (t.tx ≠ 0)) = some true ∧
    (nextOf (step (polling 0 (some 0xF0)))).map (fun t => decide (t.marker ≠ 0)) = some true ∧
    (nextOf (step { atDispatch .dispatch 0x10 with now := 1 })).map (fun t => decide (t.tEntry ≠ 0)) = some true ∧
    (nextOf (step (quiet 0x14))).map (fun t => decide (t.tHoldEnd ≠ 0)) = some true ∧
    (nextOf (step (inReceive .rxLow 0))).map State.clk = some true ∧
    (nextOf (step { atDispatch .dispatch 0x14 with takes := [some 0x80] })).map (fun t => (t.dataDir, t.dataOut)) =
      some (.output, true) := by decide

def otherDead : State :=
  { atLabel .idle with
    op := 1, tx := 2, marker := 3, acc := 4, bitcnt := 5, tEntry := 6, tHoldEnd := 7, dataOut := true }

/-- Two different states at L_IDLE that differ in dead registers only. -/
theorem witness_DeadRegistersNeverMatter :
    SameLive (atLabel .idle) otherDead ∧ atLabel .idle ≠ otherDead := by decide

theorem witness_InquiryLoopAlwaysEnds : EngineInv (polling 0 none) ∧ (polling 0 none).ctl = .inqPoll := by decide

/-- The last poll, at the deadline and at the latest time the invariant leaves. -/
theorem witness_NoKeyAnswerRespectsTheDeadline :
    EngineInv (polling 250000 none) ∧ EngineInv (polling 250009 none) ∧ (polling 250000 none).takeAt 0 = none ∧
    (nextOf (step (polling 250000 none))).map (fun t => decide (t.ctl ≠ .inqPoll)) = some true :=
  ⟨by decide, by decide, by decide, by decide⟩

theorem witness_InquiryAnswersTheKeyItTakes :
    (polling 0 (some 0xF0)).phase = .none ∧ isMarker (polling 0 (some 0xF0)).cfg 0xF0 = true ∧
    isMarker (polling 0 (some 0x33)).cfg 0x33 = false ∧
    HostListens 1 { polling 0 (some 0xF0) with hostMoves := List.replicate 30 none } := by decide

theorem witness_HostDeliversItsCommand : Quiescent (quiet 0x79) ∧ HostSends 0x79 (quiet 0x79) := by decide

/-- Each row of the table with an answer: Instant with a key and without, ModelNumber and Test. -/
theorem witness_MainTransactionAnswers :
    Quiescent (quiet 0x14) ∧ HostSends 0x14 (quiet 0x14) ∧ HostListens receptionSteps (quiet 0x14) ∧
    ({ quiet 0x14 with takes := [some 0x33] } : State).takeAt 0 = some 0x33 ∧
    ({ quiet 0x14 with takes := [none] } : State).takeAt 0 = none ∧
    HostSends 0x16 (quiet 0x16) ∧ HostListens receptionSteps (quiet 0x16) ∧
    HostSends 0x36 (quiet 0x36) ∧ HostListens receptionSteps (quiet 0x36) := by decide

theorem witness_UnknownTransactionIsSilent :
    Quiescent (quiet 0x17) ∧ HostSends 0x17 (quiet 0x17) ∧ (0x17 : Byte) ≠ 0x10 ∧ (0x17 : Byte) ≠ 0x14 ∧
    (0x17 : Byte) ≠ 0x16 ∧ (0x17 : Byte) ≠ 0x36 := by decide

/-- Both clauses. -/
theorem witness_SubExchangeAnswersOnlyInstant :
    (subWaiting 0x14).ctl = .subIdle ∧ (subWaiting 0x14).phase = .none ∧ (subWaiting 0x14).dataDir = .input ∧
    HostSends 0x14 (subWaiting 0x14) ∧ HostListens receptionSteps (subWaiting 0x14) ∧
    HostSends 0x10 (subWaiting 0x10) := by decide

end Sys2Proof.Tests
end

section
/-! The key source over a step (20_memory R56 to R58). -/

namespace Sys2Proof.Machine

variable {s t : State}

/-- The two places where a rule calls `take()`: a main-context Instant and an Inquiry poll (20_memory R58). -/
abbrev CallsTake (s : State) : Prop := (s.ctl = .dispatch ∧ s.op = 0x14) ∨ s.ctl = .inqPoll

/-- The key source of `t` is that of `s` after one `take()`. -/
abbrev TakesOnce (s t : State) : Prop := t.takes = s.takes.tail ∧ t.takeCount = s.takeCount + 1

/-- The key source of `t` is that of `s`. -/
abbrev TakesNothing (s t : State) : Prop := t.takes = s.takes ∧ t.takeCount = s.takeCount

/-! The step at each main-context command that answers. -/

theorem step_instant (hc : s.ctl = .dispatch) (ho : s.op = 0x14) :
    step s = .next (arrive (sendAt .txAnswer (instantAnswer (s.takeAt 0)) (taken s))) := by
  rw [step_dispatch hc, ho, decodeUnit, decodeMain_instant]
  rfl

theorem step_modelNumber (hc : s.ctl = .dispatch) (ho : s.op = 0x16) :
    step s = .next (arrive (sendAt .txAnswer rspModel s)) := by
  rw [step_dispatch hc, ho, decodeUnit, decodeMain_modelNumber]
  rfl

theorem step_test (hc : s.ctl = .dispatch) (ho : s.op = 0x36) :
    step s = .next (arrive (sendAt .txAnswer rspTest s)) := by
  rw [step_dispatch hc, ho, decodeUnit, decodeMain_test]
  rfl

/-- Whatever a poll iteration comes to, it has asked the key source once (44_inquiry_handler R180, D14). -/
theorem inquiryPoll_takesOnce (s : State) : TakesOnce s (inquiryPoll s) := by
  rcases inquiryPoll_cases s with ⟨b, _, _, h⟩ | ⟨b, _, _, h⟩ | ⟨_, _, h⟩ | ⟨_, _, h⟩ <;> simp [h, TakesOnce]

theorem step_takesOnce (h : step s = .next t) (hk : CallsTake s) : TakesOnce s t := by
  rcases hk with ⟨hc, ho⟩ | hc
  · rw [step_instant hc ho] at h
    cases h
    simp [TakesOnce]
  · rw [step_inqPoll hc] at h
    cases h
    simpa [TakesOnce] using inquiryPoll_takesOnce (tick s)

theorem step_takesNothing (h : step s = .next t) (hk : ¬ CallsTake s) : TakesNothing s t := by
  cases step_next h with
  | instant hc ho => exact absurd (.inl ⟨hc, ho⟩) hk
  | inqMarker _ hc => exact absurd (.inr hc) hk
  | inqKey _ hc => exact absurd (.inr hc) hk
  | inqDeadline hc => exact absurd (.inr hc) hk
  | inqPolls hc => exact absurd (.inr hc) hk
  | _ =>
    rename_i ht
    simp [ht, TakesNothing]

/-- ModelNumber's answer is the model identifier, whatever the key source holds (43_command_dispatcher R159). -/
theorem tx_of_modelNumber (h : step s = .next t) (hc : s.ctl = .dispatch) (ho : s.op = 0x16) : t.tx = rspModel := by
  rw [step_modelNumber hc ho] at h
  cases h
  simp

/-- Test's answer is the acknowledgement, whatever the key source holds (43_command_dispatcher R160). -/
theorem tx_of_test (h : step s = .next t) (hc : s.ctl = .dispatch) (ho : s.op = 0x36) : t.tx = rspTest := by
  rw [step_test hc ho] at h
  cases h
  simp

/-- Settles O49: the two rules that call `take()` use up one answer, and no other rule of a step touches the source. -/
theorem onlyInstantAndInquiryTake : Obligations.OnlyInstantAndInquiryTake := by
  intro s t h
  refine ⟨?_, tx_of_modelNumber h, tx_of_test h⟩
  split
  next hk => exact step_takesOnce h hk
  next hk => exact step_takesNothing h hk

end Sys2Proof.Machine
end

section
/-! The Line Interface in and out of its direction (40_line_interface R103, R104). -/

namespace Sys2Proof.Machine

variable {s : State}

/-! The direction that each operation has no meaning in: a model fault (60_exceptions R201). -/

theorem setData_of_input (l : Bit) (hd : s.dataDir = .input) : setData l s = .fault .setDataWhileInput := by
  simp only [setData, hd]

theorem readData_of_output (hd : s.dataDir = .output) : readData s = .error .readDataWhileOutput := by
  simp only [readData, hd]

/-! The wire while the engine does not drive it (10_state R36). -/

theorem wireData_of_hostDrives {b : Bit} (hh : s.hostDrive = some b) : wireData s = b := by
  simp only [wireData, hh, Option.getD_some]

theorem wireData_of_hostFree (hh : s.hostDrive = none) : wireData s = true := by
  simp only [wireData, hh, Option.getD_none]

/-- While the engine listens, a driving host's level is what it reads. -/
theorem readData_of_hostDrives {b : Bit} (hd : s.dataDir = .input) (hh : s.hostDrive = some b) :
    readData s = .ok b :=
  readData_ok.2 ⟨hd, (wireData_of_hostDrives hh).symm⟩

/-- While neither side drives, the pull-up is what the engine reads. -/
theorem readData_of_hostFree (hd : s.dataDir = .input) (hh : s.hostDrive = none) : readData s = .ok true :=
  readData_ok.2 ⟨hd, (wireData_of_hostFree hh).symm⟩

/-- Settles O18: the two total operations are their own equations; the other two split on the direction, and
`readData` on the host as well. -/
theorem lineOperationsKeepTheirDirection : Obligations.LineOperationsKeepTheirDirection := by
  intro s l
  have clock_writes : setClock l s = { s with clk := l } := rfl
  have direction_writes (d : DataDir) : setDataDirection d s = { s with dataDir := d } := rfl
  exact ⟨clock_writes, direction_writes, setData_of_output, setData_of_input l, readData_of_output,
    fun _ => readData_of_hostDrives, readData_of_hostFree⟩

end Sys2Proof.Machine
end

section
/-! The Key Translator's loop, over any list of directions (42_key_translator R140 to R142). -/

namespace Sys2Proof.Machine

variable {P : Params} {m : Byte} {d : Dir} {ds : List Dir} {e : Edge} {s : State}

theorem mem_allDirs (d : Dir) : d ∈ allDirs := by
  cases d <;> simp [allDirs]

theorem arrowMarker_inj {d' : Dir} {e' : Edge} :
    P.arrowMarker d e = P.arrowMarker d' e' ↔ d = d' ∧ e = e' :=
  ⟨arrowMarker_injective P, by rintro ⟨rfl, rfl⟩; rfl⟩

/-! One round of the loop: either the direction's own tests decide, or it has no part in the answer. -/

theorem translateOver_cons_press :
    translateOver P (P.arrowMarker d .press) (d :: ds) = P.arrowCode d := by
  rw [translateOver, if_pos rfl]

theorem translateOver_cons_release :
    translateOver P (P.arrowMarker d .release) (d :: ds) = P.arrowCode d ||| 0x80 := by
  have not_press : P.arrowMarker d .release ≠ P.arrowMarker d .press := by simp [arrowMarker_inj]
  rw [translateOver, if_neg not_press, if_pos rfl]

theorem translateOver_cons_of_ne (h : ∀ e, m ≠ P.arrowMarker d e) :
    translateOver P m (d :: ds) = translateOver P m ds := by
  rw [translateOver, if_neg (h .press), if_neg (h .release)]

/-! The whole loop. -/

/-- A direction's marker gets the answer of that direction's own round, wherever it stands in the list: this is R140's
remark that the order of the tests does not matter. -/
theorem translateOver_arrowMarker_of_mem (hd : d ∈ ds) :
    translateOver P (P.arrowMarker d e) ds = translateOver P (P.arrowMarker d e) [d] := by
  induction ds with
  | nil => cases hd
  | cons d' ds ih =>
    by_cases hdd : d = d'
    · subst hdd
      cases e with
      | press => rw [translateOver_cons_press, translateOver_cons_press]
      | release => rw [translateOver_cons_release, translateOver_cons_release]
    · have other_direction : ∀ e', P.arrowMarker d e ≠ P.arrowMarker d' e' := by simp [arrowMarker_inj, hdd]
      rw [translateOver_cons_of_ne other_direction, ih (List.mem_of_ne_of_mem hdd hd)]

theorem translateOver_of_no_marker (h : ∀ d e, m ≠ P.arrowMarker d e) : translateOver P m ds = rspNoKey := by
  induction ds with
  | nil => rfl
  | cons d ds ih => rw [translateOver_cons_of_ne (h d), ih]

/-! `translate` itself, row by row. -/

theorem translateMarker_press (P : Params) (d : Dir) :
    translateMarker P (P.arrowMarker d .press) = P.arrowCode d :=
  (translateOver_arrowMarker_of_mem (mem_allDirs d)).trans translateOver_cons_press

theorem translateMarker_release (P : Params) (d : Dir) :
    translateMarker P (P.arrowMarker d .release) = P.arrowCode d ||| 0x80 :=
  (translateOver_arrowMarker_of_mem (mem_allDirs d)).trans translateOver_cons_release

theorem translateMarker_of_no_marker (h : ∀ d e, m ≠ P.arrowMarker d e) : translateMarker P m = rspNoKey :=
  translateOver_of_no_marker h

/-! The values that `translate` is asked for. -/

theorem mem_markerSet_iff : m ∈ markerSet P ↔ ∃ d e, m = P.arrowMarker d e := by
  constructor
  · intro hm
    obtain ⟨d, -, hd⟩ := List.mem_flatMap.1 hm
    obtain h | h : m = P.arrowMarker d .press ∨ m = P.arrowMarker d .release := by simpa using hd
    · exact ⟨d, .press, h⟩
    · exact ⟨d, .release, h⟩
  · rintro ⟨d, e, rfl⟩
    refine List.mem_flatMap.2 ⟨d, mem_allDirs d, ?_⟩
    cases e <;> simp

theorem isMarker_iff : isMarker P m = true ↔ ∃ d e, m = P.arrowMarker d e := by
  rw [isMarker, List.contains_iff_mem, mem_markerSet_iff]

theorem EngineInv.markerFits (hi : EngineInv s) : MarkerFits s := by
  obtain ⟨_, _, _, _, _, hm, _⟩ := hi
  exact hm

/-- Settles O14: a marker is translated by its own direction's round of the loop, and any other value runs through all
four. -/
theorem translateFollowsItsTable : Obligations.TranslateFollowsItsTable := fun P =>
  ⟨translateMarker_press P, translateMarker_release P, fun _ => translateMarker_of_no_marker⟩

/-- Settles O16: the value outside the table is that of the exhausted loop, and the operand at L_SUB_DISPATCH, a label
of the sub context, is a marker by the invariant. -/
theorem translateOutsideTheMarkersIsNoKey : Obligations.TranslateOutsideTheMarkersIsNoKey := by
  refine ⟨fun _ _ => translateMarker_of_no_marker, fun s hi hc => ?_⟩
  have in_sub : contextOf s.ctl = .sub := by rw [hc]; rfl
  exact isMarker_iff.1 (hi.markerFits in_sub)

end Sys2Proof.Machine
end

section
/-! The way back to the top after a command that is dropped (43_command_dispatcher R161, 30_encoding R75). -/

namespace Sys2Proof.Machine

variable {s t : State} {n : Nat}

theorem exec_unknown (u : Byte) (s : State) : exec (.unknown u) s = .next (goto .top s) := rfl

/-- A step that leaves Clock as it was shows the host no level (41_bit_transceiver R125). -/
theorem hostReads_succ_of_sameClock (h : step s = .next t) (hc : t.clk = s.clk) :
    hostReads (n + 1) s = hostReads n t := by
  have no_rise : hostSamples s t = false := by simp [hostSamples, hc]
  simp [hostReads, h, no_rise]

/-- A step that only transfers control to L_TOP is followed by one that reaches L_IDLE, and in the two nothing is sent
and nothing is taken. -/
theorem silentReturn_of_step_goto_top (h : step s = .next (goto .top s)) :
    ∃ t, steps 2 s = .next t ∧ t.ctl = .idle ∧ hostReads 2 s = [] ∧ TakesNothing s t := by
  have top_step : step (goto .top s) = .next (goto .idle (setDataDirection .input (tick (goto .top s)))) :=
    step_top (goto_ctl _ .top)
  refine ⟨goto .idle (setDataDirection .input (tick (goto .top s))), ?_, goto_ctl _ .idle, ?_, ?_⟩
  · rw [steps_succ_of_step h, steps_succ_of_step top_step, steps]
  · rw [hostReads_succ_of_sameClock h (goto_clk _ .top), hostReads_succ_of_sameClock top_step (by simp), hostReads]
  · simp [TakesNothing]

/-- Settles O10: an opcode outside the four decodes to `unknown`, which is the jump to L_TOP; the rest is the way back
from there. -/
theorem unknownOpcodeReturnsToTheTop : Obligations.UnknownOpcodeReturnsToTheTop := by
  intro s u
  refine ⟨exec_unknown u s, ?_⟩
  rintro h₁ h₂ h₃ h₄ hc rfl
  have drop : step s = .next (goto .top s) := step_unknown hc h₁ h₂ h₃ h₄
  exact ⟨drop, silentReturn_of_step_goto_top drop⟩

end Sys2Proof.Machine
end

section
/-! Encoding and decoding undo each other (30_encoding R70, R74 to R78). -/

namespace Sys2Proof

/-- In its context no other well-formed instruction has an instruction's unit. -/
theorem encode_unique (i : Instr) : Laws.UniqueWord.Statement i := by
  cases i with
  | inquiry => exact Laws.UniqueWord.inquiry
  | instant => exact Laws.UniqueWord.instant
  | modelNumber => exact Laws.UniqueWord.modelNumber
  | test => exact Laws.UniqueWord.test
  | unknown op => exact Laws.UniqueWord.unknown op
  | subInstant => exact Laws.UniqueWord.subInstant
  | subDrop op => exact Laws.UniqueWord.subDrop op

/-! What is decoded is a command of its context, with the unit it was decoded from. -/

theorem decodeMain_sound (u : Byte) :
    (decodeMain u).wf = true ∧ (decodeMain u).context = .main ∧ encode (decodeMain u) = u := by
  rcases decodeMain_cases u with ⟨rfl, h⟩ | ⟨rfl, h⟩ | ⟨rfl, h⟩ | ⟨rfl, h⟩ | ⟨h₁, h₂, h₃, h₄, h⟩ <;> rw [h]
  · exact ⟨rfl, rfl, rfl⟩
  · exact ⟨rfl, rfl, rfl⟩
  · exact ⟨rfl, rfl, rfl⟩
  · exact ⟨rfl, rfl, rfl⟩
  · exact ⟨by simpa [Instr.wf] using ⟨⟨⟨h₁, h₂⟩, h₃⟩, h₄⟩, rfl, rfl⟩

theorem decodeSub_sound (u : Byte) :
    (decodeSub u).wf = true ∧ (decodeSub u).context = .sub ∧ encode (decodeSub u) = u := by
  rcases decodeSub_cases u with ⟨rfl, h⟩ | ⟨hu, h⟩ <;> rw [h]
  · exact ⟨rfl, rfl, rfl⟩
  · exact ⟨by simpa [Instr.wf] using hu, rfl, rfl⟩

theorem decodeUnit_sound (ctx : Context) (u : Byte) :
    (decodeUnit ctx u).wf = true ∧ (decodeUnit ctx u).context = ctx ∧ encode (decodeUnit ctx u) = u := by
  cases ctx with
  | main => exact decodeMain_sound u
  | sub => exact decodeSub_sound u

/-- The decoded instruction has the same unit in the same context as `i`, so it is `i`. -/
theorem decodeUnit_encode {i : Instr} (hi : i.wf = true) : decodeUnit i.context (encode i) = i := by
  obtain ⟨hwf, hctx, henc⟩ := decodeUnit_sound i.context (encode i)
  exact encode_unique i hi _ hwf hctx henc

/-- Settles O1: the round trip of the unit, and a list of one unit decodes as the unit. -/
theorem decodeEncodeRoundTrip : Obligations.DecodeEncodeRoundTrip := by
  intro i hi
  have unit_trip := decodeUnit_encode hi
  exact ⟨unit_trip, by rw [decodeUnits, unit_trip]⟩

/-- Settles O2, row by row of the two decode tables. -/
theorem everyUnitIsACommandOfEachContext : Obligations.EveryUnitIsACommandOfEachContext :=
  decodeUnit_sound

/-- Settles O3: the words are the rows of the two tables, and 0x79 and 0x10 are outside the rows they miss. -/
theorem tableWordsDecodeToTheirCommands : Obligations.TableWordsDecodeToTheirCommands :=
  ⟨decodeMain_inquiry, decodeMain_instant, decodeMain_modelNumber, decodeMain_test,
    decodeMain_unknown (by decide) (by decide) (by decide) (by decide), decodeSub_instant,
    decodeSub_drop (by decide)⟩

end Sys2Proof
end

section
/-! Runs: `n` steps together with what the host reads in them. -/

namespace Sys2Proof.Machine

variable {s t u : State} {m n : Nat} {l l' : List Bit}

/-- `n` steps lead from `s` to `t`, and in them the host reads the levels `l`. -/
def Runs (n : Nat) (s t : State) (l : List Bit) : Prop := steps n s = .next t ∧ hostReads n s = l

theorem Runs.refl (s : State) : Runs 0 s s [] := ⟨rfl, rfl⟩

theorem Runs.trans (h : Runs m s t l) (h' : Runs n t u l') : Runs (m + n) s u (l ++ l') := by
  obtain ⟨hs, hl⟩ := h
  obtain ⟨hs', hl'⟩ := h'
  exact ⟨by rw [steps_add m n s t hs, hs'], by rw [hostReads_add m n s t hs, hl, hl']⟩

/-! One step: the host reads a level only where Clock rises while Data is an output (41_bit_transceiver R125). -/

theorem runs_one_of_no_sample (h : step s = .next t) (hs : hostSamples s t = false) : Runs 1 s t [] :=
  ⟨by simp [steps, h], by simp [hostReads, h, hs]⟩

theorem runs_one_of_sample (h : step s = .next t) (hs : hostSamples s t = true) :
    Runs 1 s t [dataSeenByHost t] :=
  ⟨by simp [steps, h], by simp [hostReads, h, hs]⟩

theorem runs_one_of_sameClock (h : step s = .next t) (hc : t.clk = s.clk) : Runs 1 s t [] :=
  runs_one_of_no_sample h (by simp [hostSamples, hc])

theorem runs_one_of_clock_low (h : step s = .next t) (hc : t.clk = false) : Runs 1 s t [] :=
  runs_one_of_no_sample h (by simp [hostSamples, hc])

theorem runs_one_of_input (h : step s = .next t) (hd : t.dataDir = .input) : Runs 1 s t [] :=
  runs_one_of_no_sample h (by simp [hostSamples, hd])

/-! What no row of a frame writes, in either direction. -/

/-- `t` has the registers of `s` that neither a receive nor a send writes, its key source and its parameters. -/
structure FrameKeeps (s t : State) : Prop where
  tx : t.tx = s.tx
  marker : t.marker = s.marker
  tEntry : t.tEntry = s.tEntry
  takes : t.takes = s.takes
  takeCount : t.takeCount = s.takeCount
  cfg : t.cfg = s.cfg

theorem FrameKeeps.refl (s : State) : FrameKeeps s s := ⟨rfl, rfl, rfl, rfl, rfl, rfl⟩

theorem FrameKeeps.trans (h : FrameKeeps s t) (h' : FrameKeeps t u) : FrameKeeps s u :=
  ⟨h'.tx.trans h.tx, h'.marker.trans h.marker, h'.tEntry.trans h.tEntry, h'.takes.trans h.takes,
    h'.takeCount.trans h.takeCount, h'.cfg.trans h.cfg⟩

/-! Holds (40_line_interface R105). -/

theorem holdsFor_hold (D : Nat) (s : State) : HoldsFor (hold D s) D := by
  have := holdDuration_bounds s.cfg D (s.drawAt 0)
  simp only [HoldsFor, hold_now, hold_tHoldEnd, hold_cfg]
  omega

/-- A hold that has just begun ends within its tolerance. -/
theorem endHold_now_bounds {D : Nat} (h : HoldsFor s D) :
    s.now + holdMin s.cfg D ≤ (endHold s).now ∧ (endHold s).now ≤ s.now + holdMax s.cfg D := by
  obtain ⟨hmin, hmax⟩ := h
  simp only [endHold_now]
  omega

theorem holdsFor_rxClockLow (s : State) : HoldsFor (rxClockLow s) s.cfg.rxLowUs :=
  holdsFor_hold s.cfg.rxLowUs (setClock false s)

theorem holdsFor_rxClockHigh (s : State) : HoldsFor (rxClockHigh s) s.cfg.rxSampleUs :=
  holdsFor_hold s.cfg.rxSampleUs (setClock true s)

theorem holdsFor_rxFold (b : Bit) (s : State) : HoldsFor (rxFold b s) s.cfg.rxPostUs :=
  holdsFor_hold s.cfg.rxPostUs { s with acc := shiftIn s.acc b, bitcnt := s.bitcnt + 1 }

theorem holdsFor_txBeginSetup (s : State) : HoldsFor (txBeginSetup s) s.cfg.txSetupUs :=
  holdsFor_hold s.cfg.txSetupUs s

theorem holdsFor_txClockLow (s : State) : HoldsFor (txClockLow s) s.cfg.txLowUs :=
  holdsFor_hold s.cfg.txLowUs (setClock false s)

theorem holdsFor_txClockHigh (s : State) : HoldsFor (txClockHigh s) s.cfg.txHighUs :=
  holdsFor_hold s.cfg.txHighUs (setClock true s)

/-- With a tolerance of 0 a hold lasts exactly its nominal duration. -/
theorem hold_exact {P : Params} (h : P.tolNum = 0) (D : Nat) : holdMin P D = D ∧ holdMax P D = D := by
  have pos : 0 < P.tolDen := by have := P.tol_lt_one; omega
  constructor
  · refine le_antisymm (holdMin_le_holdMax P D).1 ?_
    have := (holdMin_le_iff P (D := D)).1 le_rfl
    rw [h, Nat.sub_zero] at this
    exact Nat.le_of_mul_le_mul_right this pos
  · rw [holdMax, h, Nat.add_zero, Nat.mul_div_cancel _ pos]

end Sys2Proof.Machine
end

section
/-! A whole receive frame, period by period (41_bit_transceiver R120, R130). -/

namespace Sys2Proof.Machine

variable {s t : State} {k : Nat}

theorem shiftIn_getLsbD_zero (a : Byte) (b : Bit) : (shiftIn a b).getLsbD 0 = b := by
  cases b <;> simp [shiftIn]

theorem shiftIn_getLsbD_succ (a : Byte) (b : Bit) {j : Nat} (h : j + 1 < 8) :
    (shiftIn a b).getLsbD (j + 1) = a.getLsbD j := by
  cases b <;> simp [shiftIn, h, -BitVec.getLsbD_eq_getElem]

/-! One bit period: Clock rises, the sample is taken, and then either Clock falls for the next bit or the frame
ends. -/

/-- The state after the sample of a period whose low hold is in progress in `s`. -/
def rxSampled (s : State) : State :=
  rxFold (wireData (tick (endHold (rxClockHigh (tick (endHold s))))))
    (tick (endHold (rxClockHigh (tick (endHold s)))))

@[simp] theorem rxSampled_ctl (s : State) : (rxSampled s).ctl = s.ctl := by simp [rxSampled]
@[simp] theorem rxSampled_phase (s : State) : (rxSampled s).phase = .rxPost := by simp [rxSampled]
@[simp] theorem rxSampled_bitcnt (s : State) : (rxSampled s).bitcnt = s.bitcnt + 1 := by simp [rxSampled]
@[simp] theorem rxSampled_clk (s : State) : (rxSampled s).clk = true := by simp [rxSampled]
@[simp] theorem rxSampled_dataDir (s : State) : (rxSampled s).dataDir = s.dataDir := by simp [rxSampled]
@[simp] theorem rxSampled_dataOut (s : State) : (rxSampled s).dataOut = s.dataOut := by simp [rxSampled]
@[simp] theorem rxSampled_cfg (s : State) : (rxSampled s).cfg = s.cfg := by simp [rxSampled]

@[simp] theorem rxSampled_acc (s : State) : (rxSampled s).acc = shiftIn s.acc (levelOf (s.hostAt 1)) := by
  simp [rxSampled, wireData_tick, levelOf]

@[simp] theorem rxSampled_hostAt (s : State) (j : Nat) : (rxSampled s).hostAt j = s.hostAt (j + 2) := by
  simp [rxSampled]

theorem rxSampled_keeps (s : State) : FrameKeeps s (rxSampled s) := by
  constructor <;> simp [rxSampled]

theorem runs_rxSampled (hc : s.ctl.isReceive = true) (hp : s.phase = .rxLow) (hd : s.dataDir = .input) :
    Runs 2 s (rxSampled s) [] := by
  have rise := step_rxLow hc hp
  have sample : step (rxClockHigh (tick (endHold s))) = .next (rxSampled s) :=
    step_rxHigh (by simpa using hc) (by simp) (by simpa using hd)
  exact (runs_one_of_input rise (by simpa using hd)).trans (runs_one_of_input sample (by simpa using hd))

/-- Between the fall of Clock and the end of the sample's hold the two holds of R121 pass. -/
theorem rxSampled_time (h : HoldsFor s s.cfg.rxLowUs) :
    HoldsFor (rxSampled s) s.cfg.rxPostUs ∧
    s.now + holdMin s.cfg s.cfg.rxLowUs + holdMin s.cfg s.cfg.rxSampleUs ≤ (rxSampled s).now ∧
    (rxSampled s).now ≤ s.now + holdMax s.cfg s.cfg.rxLowUs + holdMax s.cfg s.cfg.rxSampleUs := by
  obtain ⟨low_min, low_max⟩ := endHold_now_bounds h
  obtain ⟨high_min, high_max⟩ := endHold_now_bounds (holdsFor_rxClockHigh (tick (endHold s)))
  refine ⟨holdsFor_rxFold _ _, ?_, ?_⟩ <;> simp only [rxSampled, rxFold_now, tick_now, rxClockHigh_now,
    rxClockHigh_cfg, tick_cfg, endHold_cfg] at high_min high_max ⊢ <;> omega

/-- `t` is in the low hold of period `k` of the receive whose entry row ended in `s`. -/
structure InReceive (k : Nat) (s t : State) : Prop where
  ctl : t.ctl = s.ctl
  phase : t.phase = .rxLow
  bitcnt : t.bitcnt = k
  dataDir : t.dataDir = .input
  dataOut : t.dataOut = s.dataOut
  keeps : FrameKeeps s t
  bits : ∀ i, i < k → t.acc.getLsbD (k - 1 - i) = levelOf (s.hostAt (3 * i + 1))
  hostAt : ∀ j, t.hostAt j = s.hostAt (3 * k + j)
  holds : HoldsFor t s.cfg.rxLowUs
  now_ge : s.now + k * (holdMin s.cfg s.cfg.rxLowUs + holdMin s.cfg s.cfg.rxSampleUs +
    holdMin s.cfg s.cfg.rxPostUs) ≤ t.now
  now_le : t.now ≤ s.now + k * (holdMax s.cfg s.cfg.rxLowUs + holdMax s.cfg s.cfg.rxSampleUs +
    holdMax s.cfg s.cfg.rxPostUs)

theorem inReceive_zero (h : BeginsReceive s) : InReceive 0 s s := by
  obtain ⟨-, hp, hb, hd, hh⟩ := h
  exact ⟨rfl, hp, hb, hd, rfl, .refl s, by simp, by simp, hh, by simp, by simp⟩

/-- The sample of period `k` gives bit `k`, and the earlier ones move up by one. -/
theorem InReceive.sampled_bits (h : InReceive k s t) (hk : k < 8) {i : Nat} (hi : i < k + 1) :
    (rxSampled t).acc.getLsbD (k - i) = levelOf (s.hostAt (3 * i + 1)) := by
  rw [rxSampled_acc]
  obtain hik | rfl := Nat.lt_succ_iff_lt_or_eq.1 hi
  · rw [show k - i = (k - 1 - i) + 1 by omega, shiftIn_getLsbD_succ _ _ (by omega), h.bits i hik]
  · rw [Nat.sub_self, shiftIn_getLsbD_zero, h.hostAt]

/-- After the hold of the sample a whole period has passed. -/
theorem InReceive.sampled_time (h : InReceive k s t) :
    s.now + (k + 1) * (holdMin s.cfg s.cfg.rxLowUs + holdMin s.cfg s.cfg.rxSampleUs +
      holdMin s.cfg s.cfg.rxPostUs) ≤ (endHold (rxSampled t)).now ∧
    (endHold (rxSampled t)).now ≤ s.now + (k + 1) * (holdMax s.cfg s.cfg.rxLowUs +
      holdMax s.cfg s.cfg.rxSampleUs + holdMax s.cfg s.cfg.rxPostUs) := by
  have hcfg : t.cfg = s.cfg := h.keeps.cfg
  obtain ⟨post, sampled_min, sampled_max⟩ := rxSampled_time (hcfg ▸ h.holds)
  obtain ⟨post_min, post_max⟩ := endHold_now_bounds post
  have := h.now_ge
  have := h.now_le
  simp only [rxSampled_cfg, hcfg] at sampled_min sampled_max post_min post_max
  rw [Nat.add_one_mul, Nat.add_one_mul]
  omega

theorem InReceive.next (h : InReceive k s t) (hk : k < 8) :
    InReceive (k + 1) s (rxClockLow (tick (endHold (rxSampled t)))) where
  ctl := by simp [h.ctl]
  phase := by simp
  bitcnt := by simp [h.bitcnt]
  dataDir := by simp [h.dataDir]
  dataOut := by simp [h.dataOut]
  keeps := (h.keeps.trans (rxSampled_keeps t)).trans (by constructor <;> simp)
  bits i hi := by simpa only [rxClockLow_acc, tick_acc, endHold_acc, Nat.add_sub_cancel] using h.sampled_bits hk hi
  hostAt j := by
    simp only [rxClockLow_hostAt, tick_hostAt, endHold_hostAt, rxSampled_hostAt, h.hostAt]
    congr 1
    omega
  holds := by simpa only [tick_cfg, endHold_cfg, rxSampled_cfg, h.keeps.cfg] using
    holdsFor_rxClockLow (tick (endHold (rxSampled t)))
  now_ge := by simpa only [rxClockLow_now, tick_now] using h.sampled_time.1
  now_le := by simpa only [rxClockLow_now, tick_now] using h.sampled_time.2

/-- The first seven periods. -/
theorem runs_inReceive (h : BeginsReceive s) : ∀ k, k < 8 → ∃ t, Runs (3 * k) s t [] ∧ InReceive k s t
  | 0, _ => ⟨s, .refl s, inReceive_zero h⟩
  | k + 1, hk => by
    obtain ⟨t, hrun, ht⟩ := runs_inReceive h k (by omega)
    have hc : t.ctl.isReceive = true := ht.ctl ▸ h.1
    have fall : step (rxSampled t) = .next (rxClockLow (tick (endHold (rxSampled t)))) :=
      step_rxPost (by simpa using hc) (by simp) (by rw [rxSampled_bitcnt, ht.bitcnt]; omega)
    have period := (runs_rxSampled hc ht.phase ht.dataDir).trans (runs_one_of_clock_low fall (by simp))
    exact ⟨_, hrun.trans period, ht.next (by omega)⟩

/-- The state after the last row of the receive whose last low hold is in progress in `s`. -/
def rxFinished (s : State) : State :=
  goto (afterReceive s.ctl) (setPhase .none { tick (endHold (rxSampled s)) with op := (rxSampled s).acc })

@[simp] theorem rxFinished_ctl (s : State) : (rxFinished s).ctl = afterReceive s.ctl := rfl
@[simp] theorem rxFinished_phase (s : State) : (rxFinished s).phase = .none := rfl
@[simp] theorem rxFinished_clk (s : State) : (rxFinished s).clk = true := by simp [rxFinished]
@[simp] theorem rxFinished_dataDir (s : State) : (rxFinished s).dataDir = s.dataDir := by simp [rxFinished]
@[simp] theorem rxFinished_dataOut (s : State) : (rxFinished s).dataOut = s.dataOut := by simp [rxFinished]
@[simp] theorem rxFinished_op (s : State) : (rxFinished s).op = (rxSampled s).acc := by simp [rxFinished]
@[simp] theorem rxFinished_now (s : State) : (rxFinished s).now = (endHold (rxSampled s)).now := by
  simp [rxFinished]
@[simp] theorem rxFinished_hostAt (s : State) (j : Nat) : (rxFinished s).hostAt j = s.hostAt (j + 3) := by
  change (tick (endHold (rxSampled s))).hostAt j = _
  simp

/-- What a receive has done when it leaves its label. -/
structure ReceiveDone (s t : State) : Prop where
  ctl : t.ctl = afterReceive s.ctl
  phase : t.phase = .none
  clk : t.clk = true
  dataDir : t.dataDir = .input
  dataOut : t.dataOut = s.dataOut
  keeps : FrameKeeps s t
  bits : ∀ k, k < 8 → t.op.getLsbD (7 - k) = levelOf (s.hostAt (3 * k + 1))
  acc : t.acc = t.op
  hostAt : ∀ j, t.hostAt j = s.hostAt (24 + j)
  now_ge : s.now + 8 * (holdMin s.cfg s.cfg.rxLowUs + holdMin s.cfg s.cfg.rxSampleUs +
    holdMin s.cfg s.cfg.rxPostUs) ≤ t.now
  now_le : t.now ≤ s.now + 8 * (holdMax s.cfg s.cfg.rxLowUs + holdMax s.cfg s.cfg.rxSampleUs +
    holdMax s.cfg s.cfg.rxPostUs)

theorem InReceive.finished (h : InReceive 7 s t) : ReceiveDone s (rxFinished t) where
  ctl := by simp [h.ctl]
  phase := by simp
  clk := by simp
  dataDir := by simp [h.dataDir]
  dataOut := by simp [h.dataOut]
  keeps := (h.keeps.trans (rxSampled_keeps t)).trans (by constructor <;> simp [rxFinished])
  bits k hk := by simpa only [rxFinished_op] using h.sampled_bits (by omega) hk
  acc := by simp [rxFinished]
  hostAt j := by
    rw [rxFinished_hostAt, h.hostAt]
    congr 1
    omega
  now_ge := by simpa only [rxFinished_now] using h.sampled_time.1
  now_le := by simpa only [rxFinished_now] using h.sampled_time.2

/-- Seven periods, the eighth sample, and the row that writes `op`; in all of it Data is an input, so the host reads
nothing. -/
theorem receive_frame (h : BeginsReceive s) : ∃ t, Runs 24 s t [] ∧ ReceiveDone s t := by
  obtain ⟨t, hrun, ht⟩ := runs_inReceive h 7 (by omega)
  have hc : t.ctl.isReceive = true := ht.ctl ▸ h.1
  have last : step (rxSampled t) = .next (rxFinished t) := by
    rw [rxFinished, ← rxSampled_ctl]
    exact step_rxEnd (by simpa using hc) (by simp) (by simp [ht.bitcnt])
  have period := (runs_rxSampled hc ht.phase ht.dataDir).trans (runs_one_of_sameClock last (by simp))
  exact ⟨_, hrun.trans period, ht.finished⟩

/-- Settles O33. -/
theorem receiveFrameCollectsEightBits : Obligations.ReceiveFrameCollectsEightBits := by
  intro s h
  obtain ⟨t, ⟨hrun, -⟩, ht⟩ := receive_frame h
  obtain ⟨htx, hmarker, htEntry, htakes, htakeCount, hcfg⟩ := ht.keeps
  exact ⟨t, hrun, ht.ctl, ht.phase, ht.bits, ht.acc, ht.clk, ht.dataDir, ht.dataOut, htx, hmarker, htEntry,
    htakes, htakeCount, hcfg⟩

/-- Settles O36: with a tolerance of 0 the two bounds are the same. -/
theorem receiveFrameDuration : Obligations.ReceiveFrameDuration := by
  intro s h
  obtain ⟨t, ⟨hrun, -⟩, ht⟩ := receive_frame h
  refine ⟨t, hrun, ht.now_ge, ht.now_le, fun htol => le_antisymm ?_ ?_⟩
  · simpa [hold_exact htol] using ht.now_le
  · simpa [hold_exact htol] using ht.now_ge

end Sys2Proof.Machine
end

section
/-! A whole send frame, period by period (41_bit_transceiver R124 to R126, R131). -/

namespace Sys2Proof.Machine

variable {s t : State} {k : Nat}

theorem dataSeenByHost_of_listening (hd : s.dataDir = .output) (hh : s.hostDrive = none) :
    dataSeenByHost s = s.dataOut := by
  simp [dataSeenByHost, hd, hh]

/-! One bit period: Clock falls, Clock rises where the host samples, and then either the next bit is set or the frame
ends. -/

/-- The state after the rising edge of a period whose setup hold is in progress in `s`. -/
def txRaised (s : State) : State := txClockHigh (tick (endHold (txClockLow (tick (endHold s)))))

@[simp] theorem txRaised_ctl (s : State) : (txRaised s).ctl = s.ctl := by simp [txRaised]
@[simp] theorem txRaised_phase (s : State) : (txRaised s).phase = .txHigh := by simp [txRaised]
@[simp] theorem txRaised_bitcnt (s : State) : (txRaised s).bitcnt = s.bitcnt := by simp [txRaised]
@[simp] theorem txRaised_acc (s : State) : (txRaised s).acc = s.acc := by simp [txRaised]
@[simp] theorem txRaised_op (s : State) : (txRaised s).op = s.op := by simp [txRaised]
@[simp] theorem txRaised_tx (s : State) : (txRaised s).tx = s.tx := by simp [txRaised]
@[simp] theorem txRaised_clk (s : State) : (txRaised s).clk = true := by simp [txRaised]
@[simp] theorem txRaised_dataDir (s : State) : (txRaised s).dataDir = s.dataDir := by simp [txRaised]
@[simp] theorem txRaised_dataOut (s : State) : (txRaised s).dataOut = s.dataOut := by simp [txRaised]
@[simp] theorem txRaised_cfg (s : State) : (txRaised s).cfg = s.cfg := by simp [txRaised]
@[simp] theorem txRaised_hostDrive (s : State) : (txRaised s).hostDrive = s.hostAt 1 := by simp [txRaised]
@[simp] theorem txRaised_hostAt (s : State) (j : Nat) : (txRaised s).hostAt j = s.hostAt (j + 2) := by
  simp [txRaised]

theorem txRaised_keeps (s : State) : FrameKeeps s (txRaised s) := by
  constructor <;> simp [txRaised]

/-- The rising edge is the one place of a period where the host reads. -/
theorem runs_txRaised (hc : s.ctl.isSend = true) (hp : s.phase = .txSetup) (hd : s.dataDir = .output) :
    Runs 2 s (txRaised s) [dataSeenByHost (txRaised s)] := by
  have fall := step_txSetup hc hp
  have rise : step (txClockLow (tick (endHold s))) = .next (txRaised s) :=
    step_txLow (by simpa using hc) (by simp)
  exact (runs_one_of_clock_low fall (by simp)).trans (runs_one_of_sample rise (by simp [hostSamples, hd]))

/-- Between the setting of the bit and the rise of Clock the two holds of R124 pass. -/
theorem txRaised_time (h : HoldsFor s s.cfg.txSetupUs) :
    HoldsFor (txRaised s) s.cfg.txHighUs ∧
    s.now + holdMin s.cfg s.cfg.txSetupUs + holdMin s.cfg s.cfg.txLowUs ≤ (txRaised s).now ∧
    (txRaised s).now ≤ s.now + holdMax s.cfg s.cfg.txSetupUs + holdMax s.cfg s.cfg.txLowUs := by
  obtain ⟨setup_min, setup_max⟩ := endHold_now_bounds h
  obtain ⟨low_min, low_max⟩ := endHold_now_bounds (holdsFor_txClockLow (tick (endHold s)))
  refine ⟨holdsFor_txClockHigh _, ?_, ?_⟩ <;> simp only [txRaised, txClockHigh_now, tick_now, txClockLow_now,
    txClockLow_cfg, tick_cfg, endHold_cfg] at low_min low_max ⊢ <;> omega

/-- `t` is in the setup hold of period `k` of the send whose entry row ended in `s`. -/
structure InSend (k : Nat) (s t : State) : Prop where
  ctl : t.ctl = s.ctl
  phase : t.phase = .txSetup
  bitcnt : t.bitcnt = 8 - k
  acc : t.acc = s.acc
  op : t.op = s.op
  dataDir : t.dataDir = .output
  dataOut : t.dataOut = s.tx.getLsbD (7 - k)
  keeps : FrameKeeps s t
  hostAt : ∀ j, t.hostAt j = s.hostAt (3 * k + j)
  holds : HoldsFor t s.cfg.txSetupUs
  now_ge : s.now + k * (holdMin s.cfg s.cfg.txSetupUs + holdMin s.cfg s.cfg.txLowUs +
    holdMin s.cfg s.cfg.txHighUs) ≤ t.now
  now_le : t.now ≤ s.now + k * (holdMax s.cfg s.cfg.txSetupUs + holdMax s.cfg s.cfg.txLowUs +
    holdMax s.cfg s.cfg.txHighUs)

theorem inSend_zero (h : BeginsSend s) : InSend 0 s s := by
  obtain ⟨-, hp, hb, hd, ho, hh⟩ := h
  exact ⟨rfl, hp, hb, rfl, rfl, hd, ho, .refl s, by simp, hh, by simp, by simp⟩

/-- A host that does not drive reads bit `7 - k` at the rising edge of period `k`. -/
theorem InSend.level_read (h : InSend k s t) (hh : s.hostAt (3 * k + 1) = none) :
    dataSeenByHost (txRaised t) = s.tx.getLsbD (7 - k) := by
  rw [dataSeenByHost_of_listening (by simp [h.dataDir]) (by simp [h.hostAt, hh]), txRaised_dataOut, h.dataOut]

theorem InSend.raised_time (h : InSend k s t) :
    s.now + (k + 1) * (holdMin s.cfg s.cfg.txSetupUs + holdMin s.cfg s.cfg.txLowUs +
      holdMin s.cfg s.cfg.txHighUs) ≤ (endHold (txRaised t)).now ∧
    (endHold (txRaised t)).now ≤ s.now + (k + 1) * (holdMax s.cfg s.cfg.txSetupUs +
      holdMax s.cfg s.cfg.txLowUs + holdMax s.cfg s.cfg.txHighUs) := by
  have hcfg : t.cfg = s.cfg := h.keeps.cfg
  obtain ⟨high, raised_min, raised_max⟩ := txRaised_time (hcfg ▸ h.holds)
  obtain ⟨high_min, high_max⟩ := endHold_now_bounds high
  have := h.now_ge
  have := h.now_le
  simp only [txRaised_cfg, hcfg] at raised_min raised_max high_min high_max
  rw [Nat.add_one_mul, Nat.add_one_mul]
  omega

/-- The state after the row that sets the next bit of the send that has raised Clock in `s`. -/
def txNextBit (s : State) : State :=
  txBeginSetup { tick (endHold s) with bitcnt := s.bitcnt - 1, dataOut := txBit s.tx (s.bitcnt - 1) }

@[simp] theorem txNextBit_clk (s : State) : (txNextBit s).clk = s.clk := rfl
@[simp] theorem txNextBit_now (s : State) : (txNextBit s).now = (endHold s).now := rfl
@[simp] theorem txNextBit_hostAt (s : State) (j : Nat) : (txNextBit s).hostAt j = s.hostAt (j + 1) := by
  change (tick (endHold s)).hostAt j = _
  simp

theorem InSend.next (h : InSend k s t) (hk : k < 7) : InSend (k + 1) s (txNextBit (txRaised t)) where
  ctl := by simp [txNextBit, h.ctl]
  phase := by simp [txNextBit]
  bitcnt := by simp [txNextBit, h.bitcnt]; omega
  acc := by simp [txNextBit, h.acc]
  op := by simp [txNextBit, h.op]
  dataDir := by simp [txNextBit, h.dataDir]
  dataOut := by
    simp only [txNextBit, txBeginSetup_dataOut, txBit, txRaised_tx, txRaised_bitcnt, h.keeps.tx, h.bitcnt]
    congr 1
    omega
  keeps := (h.keeps.trans (txRaised_keeps t)).trans (by constructor <;> simp [txNextBit])
  hostAt j := by
    rw [txNextBit_hostAt, txRaised_hostAt, h.hostAt]
    congr 1
    omega
  holds := by
    have := holdsFor_txBeginSetup { tick (endHold (txRaised t)) with
      bitcnt := (txRaised t).bitcnt - 1, dataOut := txBit (txRaised t).tx ((txRaised t).bitcnt - 1) }
    simpa only [txNextBit, tick_cfg, endHold_cfg, txRaised_cfg, h.keeps.cfg] using this
  now_ge := by simpa only [txNextBit_now] using h.raised_time.1
  now_le := by simpa only [txNextBit_now] using h.raised_time.2

/-- The first seven periods, with the level the host reads in each. -/
theorem runs_inSend (h : BeginsSend s) : ∀ k, k < 8 → ∃ t l, Runs (3 * k) s t l ∧ InSend k s t ∧ l.length = k ∧
    ((∀ i, i < k → s.hostAt (3 * i + 1) = none) → l = (List.range k).map fun i => s.tx.getLsbD (7 - i))
  | 0, _ => ⟨s, [], .refl s, inSend_zero h, rfl, fun _ => rfl⟩
  | k + 1, hk => by
    obtain ⟨t, l, hrun, ht, hlen, hl⟩ := runs_inSend h k (by omega)
    have hc : t.ctl.isSend = true := ht.ctl ▸ h.1
    have set_bit : step (txRaised t) = .next (txNextBit (txRaised t)) :=
      step_txHigh (by simpa using hc) (by simp) (by rw [txRaised_bitcnt, ht.bitcnt]; omega) (by simp [ht.dataDir])
    have period := (runs_txRaised hc ht.phase ht.dataDir).trans (runs_one_of_sameClock set_bit (by simp))
    refine ⟨_, _, hrun.trans period, ht.next (by omega), by simp [hlen], fun listens => ?_⟩
    rw [hl fun i hi => listens i (by omega), ht.level_read (listens k (by omega)), List.range_succ, List.map_append]
    rfl

/-- The state after the last row of the send that has raised Clock for the last time in `s`. -/
def txFinished (s : State) : State :=
  goto (afterSend s.ctl) (setPhase .none (setDataDirection .input { tick (endHold s) with bitcnt := 0 }))

@[simp] theorem txFinished_now (s : State) : (txFinished s).now = (endHold s).now := by simp [txFinished]
@[simp] theorem txFinished_clk (s : State) : (txFinished s).clk = s.clk := by simp [txFinished]
@[simp] theorem txFinished_hostAt (s : State) (j : Nat) : (txFinished s).hostAt j = s.hostAt (j + 1) := by
  change (tick (endHold s)).hostAt j = _
  simp

/-- What a send has done when it leaves its label. -/
structure SendDone (s t : State) : Prop where
  ctl : t.ctl = afterSend s.ctl
  phase : t.phase = .none
  clk : t.clk = true
  dataDir : t.dataDir = .input
  acc : t.acc = s.acc
  op : t.op = s.op
  keeps : FrameKeeps s t
  hostAt : ∀ j, t.hostAt j = s.hostAt (24 + j)
  now_ge : s.now + 8 * (holdMin s.cfg s.cfg.txSetupUs + holdMin s.cfg s.cfg.txLowUs +
    holdMin s.cfg s.cfg.txHighUs) ≤ t.now
  now_le : t.now ≤ s.now + 8 * (holdMax s.cfg s.cfg.txSetupUs + holdMax s.cfg s.cfg.txLowUs +
    holdMax s.cfg s.cfg.txHighUs)

theorem InSend.finished (h : InSend 7 s t) : SendDone s (txFinished (txRaised t)) where
  ctl := by simp [txFinished, h.ctl]
  phase := by simp [txFinished]
  clk := by simp
  dataDir := by simp [txFinished]
  acc := by simp [txFinished, h.acc]
  op := by simp [txFinished, h.op]
  keeps := (h.keeps.trans (txRaised_keeps t)).trans (by constructor <;> simp [txFinished])
  hostAt j := by
    rw [txFinished_hostAt, txRaised_hostAt, h.hostAt]
    congr 1
    omega
  now_ge := by simpa only [txFinished_now] using h.raised_time.1
  now_le := by simpa only [txFinished_now] using h.raised_time.2

/-- Seven periods, the eighth rising edge, and the row that releases Data: the host reads eight levels, which are the
bits of `tx` if it does not drive. -/
theorem send_frame (h : BeginsSend s) : ∃ t l, Runs 24 s t l ∧ SendDone s t ∧ l.length = 8 ∧
    (HostListens 0 s → l = msbFirst s.tx) := by
  obtain ⟨t, l, hrun, ht, hlen, hl⟩ := runs_inSend h 7 (by omega)
  have hc : t.ctl.isSend = true := ht.ctl ▸ h.1
  have last : step (txRaised t) = .next (txFinished (txRaised t)) :=
    step_txEnd (by simpa using hc) (by simp) (by simp [ht.bitcnt])
  have period := (runs_txRaised hc ht.phase ht.dataDir).trans (runs_one_of_sameClock last (by simp))
  refine ⟨_, _, hrun.trans period, ht.finished, by simp [hlen], fun listens => ?_⟩
  have no_drive (i : Nat) (hi : i < 8) : s.hostAt (3 * i + 1) = none := by simpa using listens i hi
  rw [hl fun i hi => no_drive i (by omega), ht.level_read (no_drive 7 (by omega)), msbFirst, List.range_succ,
    List.map_append]
  rfl

/-- Settles O34. -/
theorem sendFrameShowsEightBits : Obligations.SendFrameShowsEightBits := by
  intro s h
  obtain ⟨t, l, ⟨hrun, rfl⟩, ht, hlen, hl⟩ := send_frame h
  obtain ⟨htx, hmarker, htEntry, htakes, htakeCount, hcfg⟩ := ht.keeps
  exact ⟨t, hrun, ht.ctl, ht.phase, hl, hlen, ht.clk, ht.dataDir, ht.acc, ht.op, htx, hmarker, htEntry,
    htakes, htakeCount, hcfg⟩

/-- Settles O37: with a tolerance of 0 the two bounds are the same. -/
theorem sendFrameDuration : Obligations.SendFrameDuration := by
  intro s h
  obtain ⟨t, l, ⟨hrun, -⟩, ht, -⟩ := send_frame h
  refine ⟨t, hrun, ht.now_ge, ht.now_le, fun htol => le_antisymm ?_ ?_⟩
  · simpa [hold_exact htol] using ht.now_le
  · simpa [hold_exact htol] using ht.now_ge

/-! A sender and a receiver tied by the levels on Data (41_bit_transceiver R128). -/

theorem byte_ext_msbFirst {a b : Byte} (h : ∀ k, k < 8 → a.getLsbD (7 - k) = b.getLsbD (7 - k)) : a = b := by
  refine BitVec.eq_of_getLsbD_eq fun i hi => ?_
  simpa [show 7 - (7 - i) = i by omega] using h (7 - i) (by omega)

theorem msbFirst_getElem? (v : Byte) (hk : k < 8) : (msbFirst v)[k]? = some (v.getLsbD (7 - k)) := by
  simp [msbFirst, hk]

/-- Settles O35: both are bit `7 - k` of `tx`, the k-th level read by R131 and the k-th bit of `op` by R130. -/
theorem receivingASentFrameGivesItsUnit : Obligations.ReceivingASentFrameGivesItsUnit := by
  intro s r hs listens hr tied
  obtain ⟨_, l, ⟨-, rfl⟩, -, -, hl⟩ := send_frame hs
  obtain ⟨t, ⟨hrun, -⟩, ht⟩ := receive_frame hr
  refine ⟨t, hrun, byte_ext_msbFirst fun k hk => ?_⟩
  have sample := tied k hk
  rw [hl listens, msbFirst_getElem? _ hk, Option.some_inj] at sample
  rw [ht.bits k hk, sample]

end Sys2Proof.Machine
end

section
/-! The invariant of the reachable states: it holds at rest, inside a frame, and wherever a step leads. -/

namespace Sys2Proof.Machine

variable {s t u : State}

/-! The parts of the invariant by name. -/

theorem EngineInv.phaseFits (h : EngineInv s) : PhaseFits s := h.1

theorem EngineInv.hostTimeFits (h : EngineInv s) : HostTimeFits s := by
  obtain ⟨-, -, -, -, -, -, -, -, -, ht⟩ := h
  exact ht

/-! Classes of labels and of phases. -/

theorem isSend_of_isReceive_eq_false {c : Ctl} (h : c.isReceive = true) : c.isSend = false := by
  rcases isReceive_cases h with rfl | rfl <;> rfl

theorem isReceive_of_isSend_eq_false {c : Ctl} (h : c.isSend = true) : c.isReceive = false := by
  rcases isSend_cases h with rfl | rfl <;> rfl

theorem phase_eq_none_iff {p : Phase} : p = .none ↔ p.isReceive = false ∧ p.isSend = false := by
  cases p <;> simp [Phase.isReceive, Phase.isSend]

/-- `phase` is NONE exactly outside the transceiver labels (10_state R23). -/
theorem PhaseFits.phase_eq_none_iff (h : PhaseFits s) :
    s.phase = .none ↔ s.ctl.isReceive = false ∧ s.ctl.isSend = false := by
  obtain ⟨hr, hs⟩ := h
  rw [Machine.phase_eq_none_iff, ← Bool.not_eq_true, ← Bool.not_eq_true, hr, hs, Bool.not_eq_true, Bool.not_eq_true]

/-- So `phase` is not NONE at a transceiver label. -/
theorem PhaseFits.phase_ne_none (h : PhaseFits s) (hc : s.ctl.isReceive = true ∨ s.ctl.isSend = true) :
    s.phase ≠ .none := by
  rw [Ne, h.phase_eq_none_iff]
  rcases hc with hc | hc <;> simp [hc]

theorem phaseFits_of_receive (hc : s.ctl.isReceive = true) (hp : s.phase.isReceive = true) : PhaseFits s := by
  have not_both : s.phase.isSend = false := by revert hp; cases s.phase <;> simp [Phase.isReceive, Phase.isSend]
  simp [PhaseFits, hc, hp, not_both, isSend_of_isReceive_eq_false hc]

theorem phaseFits_of_send (hc : s.ctl.isSend = true) (hp : s.phase.isSend = true) : PhaseFits s := by
  have not_both : s.phase.isReceive = false := by revert hp; cases s.phase <;> simp [Phase.isReceive, Phase.isSend]
  simp [PhaseFits, hc, hp, not_both, isReceive_of_isSend_eq_false hc]

/-- Reaching any label in phase NONE fits: at a transceiver label the entry row runs (log 11). -/
theorem phaseFits_arrive (hp : s.phase = .none) : PhaseFits (arrive s) := by
  rcases arrive_cases s with ⟨hc, h⟩ | ⟨hc, h⟩ | ⟨hc, -, h⟩ | ⟨hc, -, h⟩ | ⟨-, hf, h⟩ <;> rw [h]
  · simp [PhaseFits, hc, hp, Phase.isReceive, Phase.isSend, Ctl.isReceive, Ctl.isSend]
  · simp [PhaseFits, hc, hp, Phase.isReceive, Phase.isSend, Ctl.isReceive, Ctl.isSend]
  · exact phaseFits_of_receive (by simpa using hc) rfl
  · exact phaseFits_of_send (by simpa using hc) rfl
  · have no_frame : s.ctl.isReceive = false ∧ s.ctl.isSend = false := by
      constructor <;> refine Bool.eq_false_iff.2 fun hc => hf ?_ hp
      · exact .inl hc
      · exact .inr hc
    simp [PhaseFits, no_frame, hp, Phase.isReceive, Phase.isSend]

/-- At rest any label but the transceiver's fits. -/
theorem phaseFits_of_none (hp : s.phase = .none) (hr : s.ctl.isReceive = false) (hs : s.ctl.isSend = false) :
    PhaseFits s := by
  simp [PhaseFits, hp, hr, hs, Phase.isReceive, Phase.isSend]

theorem afterReceive_no_frame (c : Ctl) :
    (afterReceive c).isReceive = false ∧ (afterReceive c).isSend = false ∧ (afterReceive c).isSettle = false := by
  unfold afterReceive
  split <;> exact ⟨rfl, rfl, rfl⟩

theorem afterSend_no_frame (c : Ctl) :
    (afterSend c).isReceive = false ∧ (afterSend c).isSend = false ∧ (afterSend c).isSettle = false := by
  unfold afterSend
  split <;> exact ⟨rfl, rfl, rfl⟩

theorem wait_no_frame {c : Ctl} (h : c.isWait = true) :
    c.isReceive = false ∧ c.isSend = false ∧ c.isSettle = false := by
  rcases isWait_cases h with rfl | rfl | rfl | rfl <;> exact ⟨rfl, rfl, rfl⟩

/-- A row of a frame stays in its direction's phases, and every other step reaches a label in phase NONE. -/
theorem step_keeps_phaseFits (hf : PhaseFits s) (h : step s = .next t) : PhaseFits t := by
  have at_rest (hc : s.ctl.isReceive = false ∧ s.ctl.isSend = false) : s.phase = .none :=
    hf.phase_eq_none_iff.2 hc
  cases step_next h with
  | rxEnter hc hp => exact absurd hp (hf.phase_ne_none (.inl hc))
  | txEnter hc hp => exact absurd hp (hf.phase_ne_none (.inr hc))
  | rxRise hc _ ht | rxSample hc _ _ ht | rxNext hc _ _ ht =>
    subst ht
    exact phaseFits_of_receive (by simpa using hc) rfl
  | txFall hc _ ht | txRise hc _ ht | txNext hc _ _ _ ht =>
    subst ht
    exact phaseFits_of_send (by simpa using hc) rfl
  | rxEnd _ _ _ ht =>
    subst ht
    obtain ⟨hr, hs, -⟩ := afterReceive_no_frame s.ctl
    exact phaseFits_of_none rfl hr hs
  | txEnd _ _ _ ht =>
    subst ht
    obtain ⟨hr, hs, -⟩ := afterSend_no_frame s.ctl
    exact phaseFits_of_none rfl hr hs
  | waitEnds hc _ _ ht =>
    subst ht
    obtain ⟨hr, hs, -⟩ := wait_no_frame hc
    exact phaseFits_arrive (at_rest ⟨hr, hs⟩)
  | waitPolls hc _ _ ht =>
    subst ht
    obtain ⟨hr, hs, -⟩ := wait_no_frame hc
    exact phaseFits_of_none (at_rest ⟨hr, hs⟩) hr hs
  | inquiry hc _ ht | unknown hc _ ht | subDrop hc _ ht | top hc ht =>
    subst ht
    exact phaseFits_of_none (at_rest (hc ▸ ⟨rfl, rfl⟩)) rfl rfl
  | inqPolls hc _ _ ht =>
    subst ht
    exact phaseFits_of_none (at_rest (hc ▸ ⟨rfl, rfl⟩)) (by rw [pollWait_ctl, taken_ctl, tick_ctl, hc]; rfl)
      (by rw [pollWait_ctl, taken_ctl, tick_ctl, hc]; rfl)
  | instant hc _ ht | modelNumber hc _ ht | test hc _ ht | subInstant hc _ ht | settle hc ht | subSettle hc ht
  | inqMarker _ hc _ _ ht | inqKey _ hc _ _ ht | inqDeadline hc _ _ ht =>
    subst ht
    exact phaseFits_arrive (at_rest (hc ▸ ⟨rfl, rfl⟩))

/-! The invariant from what is particular to each situation: at rest, in a receive and in a send. -/

theorem engineInv_of_rest (hf : PhaseFits s) (hp : s.phase = .none) (hb : s.bitcnt ≤ 8) (hd : s.dataDir = .input)
    (hk : s.clk = true) (hm : MarkerFits s) (ha : AnnounceFits s) (hh : HoldFits s) (hq : InquiryFits s)
    (ht : HostTimeFits s) : EngineInv s := by
  refine ⟨hf, ?_, ?_, ?_, ?_, hm, ha, hh, hq, ht⟩
  · simp [BitcntFits, hp, hb, Phase.isSend]
  · simp [DataDirFits, hp, hd, Phase.isSend]
  · simp [ClockFits, hp, hk]
  · simp [DataOutFits, hp, Phase.isSend]

theorem engineInv_of_receive (hc : s.ctl.isReceive = true) (hp : s.phase.isReceive = true) (hb : BitcntFits s)
    (hd : s.dataDir = .input) (hk : ClockFits s) (hm : MarkerFits s) (ht : HostTimeFits s) : EngineInv s := by
  have hf : PhaseFits s := phaseFits_of_receive hc hp
  have not_sending : ¬ s.phase.isSend = true := fun h => by
    simpa [isSend_of_isReceive_eq_false hc] using hf.2.1 h
  refine ⟨hf, hb, ?_, hk, fun h => absurd h not_sending, hm, ?_, fun _ => .inl (hf.phase_ne_none (.inl hc)), ?_, ht⟩
  · simp [DataDirFits, hd, not_sending]
  · rcases isReceive_cases hc with h | h <;> simp [AnnounceFits, h]
  · rcases isReceive_cases hc with h | h <;> simp [InquiryFits, h]

theorem engineInv_of_send (hc : s.ctl.isSend = true) (hp : s.phase.isSend = true) (hb : BitcntFits s)
    (hd : s.dataDir = .output) (hk : ClockFits s) (ho : s.dataOut = txBit s.tx s.bitcnt) (hm : MarkerFits s)
    (ha : AnnounceFits s) (ht : HostTimeFits s) : EngineInv s := by
  have hf : PhaseFits s := phaseFits_of_send hc hp
  refine ⟨hf, hb, ?_, hk, fun _ => ho, hm, ha, fun _ => .inl (hf.phase_ne_none (.inr hc)), ?_, ht⟩
  · simp [DataDirFits, hd, hp]
  · rcases isSend_cases hc with h | h <;> simp [InquiryFits, h]

/-! The invariant at rest. -/

/-- What holds of the engine in the middle of a step, when it is about to arrive at its label: no frame and no hold is
in progress, Data is an input and Clock is high; the other parts are those of the invariant. -/
structure Resting (s : State) : Prop where
  phase : s.phase = .none
  bitcnt : s.bitcnt ≤ 8
  dataDir : s.dataDir = .input
  clk : s.clk = true
  noHold : s.tHoldEnd ≤ s.now
  marker : MarkerFits s
  announce : AnnounceFits s
  inquiry : InquiryFits s
  hostTime : HostTimeFits s

/-- Arriving at any label from rest gives the invariant: the hold or the entry row that begins there is one of its
rows. -/
theorem Resting.engineInv_arrive (h : Resting s) : EngineInv (arrive s) := by
  obtain ⟨hp, hb, hd, hk, hh, hm, ha, hq, ht⟩ := h
  have hf : PhaseFits (arrive s) := phaseFits_arrive hp
  have no_hold : HoldFits s := fun h => absurd (holdInProgress_eq_true.1 h) (Nat.not_lt.2 hh)
  rcases arrive_cases s with ⟨hc, h⟩ | ⟨hc, h⟩ | ⟨hc, -, h⟩ | ⟨hc, -, h⟩ | ⟨-, -, h⟩ <;> rw [h] at hf ⊢
  · exact engineInv_of_rest hf hp hb hd hk hm ha (fun _ => .inr (by rw [hold_ctl, hc]; rfl)) hq ht
  · exact engineInv_of_rest hf hp hb hd hk hm ha (fun _ => .inr (by rw [hold_ctl, hc]; rfl)) hq ht
  · exact engineInv_of_receive hc rfl (by simp [BitcntFits, Phase.isSend]) hd (by simp [ClockFits]) hm ht
  · exact engineInv_of_send hc rfl (by simp [BitcntFits]) rfl (by simp [ClockFits, hk]) rfl hm ha ht
  · exact engineInv_of_rest hf hp hb hd hk hm ha no_hold hq ht

/-- Where no hold and no frame begins, arriving is no more than being there. -/
theorem Resting.engineInv (h : Resting s) (hc : s.ctl.isReceive = false ∧ s.ctl.isSend = false ∧
    s.ctl.isSettle = false) : EngineInv s := by
  have := h.engineInv_arrive
  rwa [arrive_plain hc.2.2 hc.1 hc.2.1] at this

/-! From the invariant to rest: at the labels that are no frame, once a settle label's hold has ended. -/

/-- A host move is in the past and no longer ago than a poll period. -/
theorem hostTimeFits_tick (h : s.hostSince ≤ s.lastMove) (h' : s.lastMove ≤ s.now) : HostTimeFits (tick s) := by
  have since : hostSinceAfter (s.hostAt 0) s ≤ s.now := by
    rcases hostSinceAfter_cases (s.hostAt 0) h' with ⟨-, h⟩ | ⟨-, -, h⟩ <;> omega
  simp [HostTimeFits, since]

theorem HostTimeFits.tick_endHold (h : HostTimeFits s) : HostTimeFits (tick (endHold s)) :=
  hostTimeFits_tick h.1 (h.2.1.trans (le_max_left _ _))

theorem EngineInv.noHold (h : EngineInv s) (hc : s.ctl.isReceive = false ∧ s.ctl.isSend = false ∧
    s.ctl.isSettle = false) : s.tHoldEnd ≤ s.now := by
  obtain ⟨hf, -, -, -, -, -, -, hh, -⟩ := h
  refine holdInProgress_eq_false.1 (Bool.eq_false_iff.2 fun hold => ?_)
  rcases hh hold with hp | hs
  · exact hp (hf.phase_eq_none_iff.2 ⟨hc.1, hc.2.1⟩)
  · simp [hc.2.2] at hs

theorem EngineInv.rest_registers (h : EngineInv s) (hr : s.ctl.isReceive = false) (hs : s.ctl.isSend = false) :
    s.phase = .none ∧ s.bitcnt ≤ 8 ∧ s.dataDir = .input ∧ s.clk = true := by
  obtain ⟨hf, ⟨hb, -⟩, hd, hk, -⟩ := h
  have hp := hf.phase_eq_none_iff.2 ⟨hr, hs⟩
  refine ⟨hp, hb, ?_, ?_⟩
  · simp only [DataDirFits, hp, Phase.isSend] at hd
    cases hdir : s.dataDir <;> simp_all
  · simpa [ClockFits, hp] using hk

/-- A dispatch begins at rest. -/
theorem EngineInv.resting (h : EngineInv s) (hc : s.ctl.isReceive = false ∧ s.ctl.isSend = false ∧
    s.ctl.isSettle = false) : Resting s := by
  obtain ⟨hp, hb, hd, hk⟩ := h.rest_registers hc.1 hc.2.1
  have hh := h.noHold hc
  obtain ⟨-, -, -, -, -, hm, ha, -, hq, ht⟩ := h
  exact ⟨hp, hb, hd, hk, hh, hm, ha, hq, ht⟩

/-- So does every label outside a frame, after the host's move. -/
theorem Resting.tick (h : Resting s) : Resting (tick s) :=
  ⟨h.phase, h.bitcnt, h.dataDir, h.clk, h.noHold, h.marker, h.announce, h.inquiry,
    hostTimeFits_tick h.hostTime.1 h.hostTime.2.1⟩

/-- And a settle label, once its hold has ended. -/
theorem EngineInv.resting_after_settle (h : EngineInv s) (hc : s.ctl = .settle ∨ s.ctl = .subSettle) :
    Resting (Machine.tick (endHold s)) := by
  have no_frame : s.ctl.isReceive = false ∧ s.ctl.isSend = false := by
    rcases hc with hc | hc <;> rw [hc] <;> exact ⟨rfl, rfl⟩
  obtain ⟨hp, hb, hd, hk⟩ := h.rest_registers no_frame.1 no_frame.2
  have ht := h.hostTimeFits.tick_endHold
  refine ⟨hp, hb, hd, hk, le_max_right _ _, h.markerFits, ?_, ?_, ht⟩
  · rcases hc with hc | hc <;> simp [AnnounceFits, hc]
  · rcases hc with hc | hc <;> simp [InquiryFits, hc]

/-! Transfers of control at rest. -/

/-- A transfer to a label of which the invariant says no more than of every label of its context. -/
theorem Resting.goto (h : Resting s) {L : Ctl} (hm : contextOf L = .sub → contextOf s.ctl = .sub)
    (ha : L ≠ .txKeypad) (hq : L ≠ .inqPoll) : Resting (goto L s) :=
  ⟨h.phase, h.bitcnt, h.dataDir, h.clk, h.noHold, fun hc => h.marker (hm hc), fun hc => absurd hc ha,
    fun hc => absurd hc hq, h.hostTime⟩

theorem Resting.answer (h : Resting s) (v : Byte) : Resting (sendAt .txAnswer v s) :=
  ⟨h.phase, h.bitcnt, h.dataDir, h.clk, h.noHold, by simp [MarkerFits, contextOf], by simp [AnnounceFits],
    by simp [InquiryFits], h.hostTime⟩

theorem Resting.taken (h : Resting s) : Resting (taken s) :=
  ⟨h.phase, h.bitcnt, h.dataDir, h.clk, h.noHold, h.marker, h.announce, h.inquiry, h.hostTime⟩

/-- KeypadAnnounce is sent with an arrow marker kept (44_inquiry_handler R182). -/
theorem Resting.announce_marker (h : Resting s) {b : Byte} (hb : isMarker s.cfg b = true) :
    Resting (sendAt .txKeypad rspKeypad { s with marker := b }) :=
  ⟨h.phase, h.bitcnt, h.dataDir, h.clk, h.noHold, fun _ => hb, fun _ => rfl, by simp [InquiryFits], h.hostTime⟩

/-- A poll period passes after the host's move; in the poll loop it began before the deadline. -/
theorem Resting.pollWait (h : Resting s) (hl : s.lastMove = s.now)
    (hq : s.ctl = .inqPoll → s.now - s.tEntry < inquiryTimeoutUs) : Resting (pollWait s) := by
  obtain ⟨pos, le_max⟩ := pollDuration_bounds s.cfg (s.drawAt 0)
  refine ⟨h.phase, h.bitcnt, h.dataDir, h.clk, ?_, h.marker, h.announce, fun hc => ?_, ?_⟩
  · have := h.noHold
    rw [pollWait_tHoldEnd, pollWait_now]
    omega
  · have := hq hc
    have := (h.inquiry hc).1
    rw [pollWait_tEntry, pollWait_now, pollWait_cfg]
    omega
  · have := h.hostTime
    simp only [HostTimeFits, pollWait_hostSince, pollWait_lastMove, pollWait_now, pollWait_cfg] at this ⊢
    omega

theorem Resting.enterInquiry (h : Resting s) : Resting { s with tEntry := s.now, ctl := .inqPoll } :=
  ⟨h.phase, h.bitcnt, h.dataDir, h.clk, h.noHold, by simp [MarkerFits, contextOf], by simp [AnnounceFits],
    fun _ => ⟨le_rfl, by have := s.cfg.pollMax_pos; simp only; omega⟩, h.hostTime⟩

/-! What the invariant says inside a frame. -/

theorem EngineInv.dataDir_of_receive (h : EngineInv s) (hc : s.ctl.isReceive = true) : s.dataDir = .input := by
  obtain ⟨⟨-, hs⟩, -, hd, -⟩ := h
  have not_sending : ¬ s.phase.isSend = true := fun hp => by
    simpa [isSend_of_isReceive_eq_false hc] using hs.1 hp
  cases hdir : s.dataDir with
  | input => rfl
  | output => exact absurd (hd.1 hdir) not_sending

theorem EngineInv.dataDir_of_send (h : EngineInv s) (hc : s.ctl.isSend = true) : s.dataDir = .output := by
  obtain ⟨⟨-, hs⟩, -, hd, -⟩ := h
  exact hd.2 (hs.2 hc)

/-- Clock is high in every phase but the two low ones. -/
theorem EngineInv.clk_eq_true (h : EngineInv s) (h₁ : s.phase ≠ .rxLow) (h₂ : s.phase ≠ .txLow) : s.clk = true := by
  obtain ⟨-, -, -, hk, -⟩ := h
  simpa [ClockFits, h₁, h₂] using hk

theorem EngineInv.dataDirFits (h : EngineInv s) : DataDirFits s := h.2.2.1

theorem EngineInv.bitcntFits (h : EngineInv s) : BitcntFits s := h.2.1

theorem EngineInv.announceFits (h : EngineInv s) : AnnounceFits s := by
  obtain ⟨-, -, -, -, -, -, ha, -⟩ := h
  exact ha

theorem EngineInv.dataOutFits (h : EngineInv s) : DataOutFits s := by
  obtain ⟨-, -, -, -, ho, -⟩ := h
  exact ho

/-! The rows of a frame, after the hold before them and the host's move. -/

/-- What holds of the engine in the middle of a step of a receive, when the hold before the row has ended. -/
structure Receiving (s : State) : Prop where
  ctl : s.ctl.isReceive = true
  dataDir : s.dataDir = .input
  marker : MarkerFits s
  hostTime : HostTimeFits s

theorem EngineInv.receiving (h : EngineInv s) (hc : s.ctl.isReceive = true) : Receiving (tick (endHold s)) :=
  ⟨hc, h.dataDir_of_receive hc, h.markerFits, h.hostTimeFits.tick_endHold⟩

theorem Receiving.rxClockHigh (h : Receiving s) (hb : s.bitcnt < 8) : EngineInv (rxClockHigh s) :=
  engineInv_of_receive h.ctl rfl (by simp [BitcntFits, Phase.isSend, hb, hb.le]) h.dataDir (by simp [ClockFits])
    h.marker h.hostTime

theorem Receiving.rxFold (h : Receiving s) (hb : s.bitcnt < 8) (hk : s.clk = true) (b : Bit) :
    EngineInv (rxFold b s) :=
  engineInv_of_receive h.ctl rfl (by simp [BitcntFits, Phase.isSend, Nat.succ_le_of_lt hb]) h.dataDir
    (by simp [ClockFits, hk]) h.marker h.hostTime

theorem Receiving.rxClockLow (h : Receiving s) (hb : s.bitcnt < 8) : EngineInv (rxClockLow s) :=
  engineInv_of_receive h.ctl rfl (by simp [BitcntFits, Phase.isSend, hb, hb.le]) h.dataDir (by simp [ClockFits])
    h.marker h.hostTime

/-- What holds of the engine in the middle of a step of a send, when the hold before the row has ended. -/
structure Sending (s : State) : Prop where
  ctl : s.ctl.isSend = true
  bitcnt : s.bitcnt ≤ 8
  bitcnt_pos : 0 < s.bitcnt
  dataDir : s.dataDir = .output
  dataOut : s.dataOut = txBit s.tx s.bitcnt
  marker : MarkerFits s
  announce : AnnounceFits s
  hostTime : HostTimeFits s

theorem EngineInv.sending (h : EngineInv s) (hc : s.ctl.isSend = true) : Sending (tick (endHold s)) := by
  have hp : s.phase.isSend = true := h.phaseFits.2.2 hc
  obtain ⟨hb, -, -, -, hpos⟩ := h.bitcntFits
  exact ⟨hc, hb, hpos hp, h.dataDir_of_send hc, h.dataOutFits hp, h.markerFits, h.announceFits,
    h.hostTimeFits.tick_endHold⟩

theorem Sending.txClockLow (h : Sending s) : EngineInv (txClockLow s) :=
  engineInv_of_send h.ctl rfl (by simp [BitcntFits, h.bitcnt, h.bitcnt_pos]) h.dataDir (by simp [ClockFits])
    h.dataOut h.marker h.announce h.hostTime

theorem Sending.txClockHigh (h : Sending s) : EngineInv (txClockHigh s) :=
  engineInv_of_send h.ctl rfl (by simp [BitcntFits, h.bitcnt, h.bitcnt_pos]) h.dataDir (by simp [ClockFits])
    h.dataOut h.marker h.announce h.hostTime

theorem Sending.txBeginSetup (h : Sending s) (hb : 1 < s.bitcnt) (hk : s.clk = true) :
    EngineInv (txBeginSetup { s with bitcnt := s.bitcnt - 1, dataOut := txBit s.tx (s.bitcnt - 1) }) := by
  have := h.bitcnt
  exact engineInv_of_send h.ctl rfl (by simp [BitcntFits]; omega) h.dataDir (by simp [ClockFits, hk]) rfl
    h.marker h.announce h.hostTime

/-! The last row of a frame leaves it at rest. -/

theorem contextOf_afterReceive {c : Ctl} (h : c.isReceive = true) : contextOf (afterReceive c) = contextOf c := by
  rcases isReceive_cases h with rfl | rfl <;> rfl

theorem contextOf_afterSend {c : Ctl} (h : c.isSend = true) : contextOf (afterSend c) = contextOf c := by
  rcases isSend_cases h with rfl | rfl <;> rfl

theorem EngineInv.resting_after_receive (h : EngineInv s) (hc : s.ctl.isReceive = true) (hp : s.phase = .rxPost) :
    Resting (Machine.goto (afterReceive s.ctl) (setPhase .none { tick (endHold s) with op := s.acc })) where
  phase := rfl
  bitcnt := h.bitcntFits.1
  dataDir := h.dataDir_of_receive hc
  clk := h.clk_eq_true (by simp [hp]) (by simp [hp])
  noHold := le_max_right _ _
  marker := by simpa [MarkerFits, contextOf_afterReceive hc] using h.markerFits
  announce := by simp only [AnnounceFits, goto_ctl, afterReceive]; split <;> simp
  inquiry := by simp only [InquiryFits, goto_ctl, afterReceive]; split <;> simp
  hostTime := h.hostTimeFits.tick_endHold

theorem EngineInv.resting_after_send (h : EngineInv s) (hc : s.ctl.isSend = true) (hp : s.phase = .txHigh) :
    Resting (Machine.goto (afterSend s.ctl)
      (setPhase .none (setDataDirection .input { tick (endHold s) with bitcnt := 0 }))) where
  phase := rfl
  bitcnt := Nat.zero_le 8
  dataDir := rfl
  clk := h.clk_eq_true (by simp [hp]) (by simp [hp])
  noHold := le_max_right _ _
  marker := by simpa [MarkerFits, contextOf_afterSend hc] using h.markerFits
  announce := by simp only [AnnounceFits, goto_ctl, afterSend]; split <;> simp
  inquiry := by simp only [InquiryFits, goto_ctl, afterSend]; split <;> simp
  hostTime := h.hostTimeFits.tick_endHold

theorem contextOf_afterWait {c : Ctl} (h : c.isWait = true) : contextOf (afterWait c) = contextOf c := by
  rcases isWait_cases h with rfl | rfl | rfl | rfl <;> rfl

theorem afterWait_ne {c : Ctl} (h : c.isWait = true) : afterWait c ≠ .txKeypad ∧ afterWait c ≠ .inqPoll := by
  rcases isWait_cases h with rfl | rfl | rfl | rfl <;> simp [afterWait]

/-- Settles O40: the rules outside a frame lead from rest to rest, and arriving there gives the invariant; the rows of
a frame keep it row by row. -/
theorem stepKeepsInv : Obligations.StepKeepsInv := by
  intro s t hi h
  have at_label {c : Ctl} (hc : s.ctl = c) (hn : c.isReceive = false ∧ c.isSend = false ∧ c.isSettle = false) :
      Resting s := hi.resting (hc ▸ hn)
  cases step_next h with
  | inquiry hc _ ht =>
    subst ht
    exact (at_label hc (by decide)).enterInquiry.engineInv ⟨rfl, rfl, rfl⟩
  | instant hc _ ht =>
    subst ht
    exact ((at_label hc (by decide)).taken.answer _).engineInv_arrive
  | modelNumber hc _ ht | test hc _ ht | subInstant hc _ ht =>
    subst ht
    exact ((at_label hc (by decide)).answer _).engineInv_arrive
  | unknown hc _ ht | subDrop hc _ ht =>
    subst ht
    exact ((at_label hc (by decide)).goto (by simp [contextOf]) (by decide) (by decide)).engineInv ⟨rfl, rfl, rfl⟩
  | top hc ht =>
    subst ht
    obtain ⟨hp, hb, -, hk, hh, hm, ha, hq, hhost⟩ := (at_label hc (by decide)).tick
    have released : Resting (setDataDirection .input (tick s)) := ⟨hp, hb, rfl, hk, hh, hm, ha, hq, hhost⟩
    exact (released.goto (by simp [contextOf]) (by decide) (by decide)).engineInv ⟨rfl, rfl, rfl⟩
  | waitEnds hc _ _ ht =>
    subst ht
    have hn := wait_no_frame hc
    exact ((hi.resting hn).tick.goto (by simp [contextOf_afterWait hc]) (afterWait_ne hc).1
      (afterWait_ne hc).2).engineInv_arrive
  | waitPolls hc _ _ ht =>
    subst ht
    have hn := wait_no_frame hc
    refine ((hi.resting hn).tick.pollWait rfl fun h => ?_).engineInv hn
    rw [tick_ctl] at h
    simp [h, Ctl.isWait] at hc
  | settle hc ht =>
    subst ht
    exact ((hi.resting_after_settle (.inl hc)).goto (by simp [contextOf]) (by decide) (by decide)).engineInv_arrive
  | subSettle hc ht =>
    subst ht
    exact ((hi.resting_after_settle (.inr hc)).goto (by simp [contextOf, hc]) (by decide)
      (by decide)).engineInv_arrive
  | rxEnter hc hp => exact absurd hp (hi.phaseFits.phase_ne_none (.inl hc))
  | rxRise hc hp ht =>
    subst ht
    obtain ⟨-, hb, -⟩ := hi.bitcntFits
    exact (hi.receiving hc).rxClockHigh (hb hp)
  | rxSample hc hp _ ht =>
    subst ht
    obtain ⟨-, -, hb, -⟩ := hi.bitcntFits
    exact (hi.receiving hc).rxFold (hb hp) (hi.clk_eq_true (by simp [hp]) (by simp [hp])) _
  | rxNext hc _ hb ht =>
    subst ht
    exact (hi.receiving hc).rxClockLow hb
  | rxEnd hc hp _ ht =>
    subst ht
    exact (hi.resting_after_receive hc hp).engineInv (afterReceive_no_frame _)
  | txEnter hc hp => exact absurd hp (hi.phaseFits.phase_ne_none (.inr hc))
  | txFall hc _ ht =>
    subst ht
    exact (hi.sending hc).txClockLow
  | txRise hc _ ht =>
    subst ht
    exact (hi.sending hc).txClockHigh
  | txNext hc hp hb _ ht =>
    subst ht
    exact (hi.sending hc).txBeginSetup hb (hi.clk_eq_true (by simp [hp]) (by simp [hp]))
  | txEnd hc hp _ ht =>
    subst ht
    exact (hi.resting_after_send hc hp).engineInv (afterSend_no_frame _)
  | inqMarker b hc hk hb ht =>
    subst ht
    exact ((at_label hc (by decide)).tick.taken.announce_marker hb).engineInv_arrive
  | inqKey b hc _ _ ht | inqDeadline hc _ _ ht =>
    subst ht
    exact ((at_label hc (by decide)).tick.taken.answer _).engineInv_arrive
  | inqPolls hc _ hd ht =>
    subst ht
    exact ((at_label hc (by decide)).tick.taken.pollWait rfl fun _ => hd).engineInv
      (by rw [pollWait_ctl, taken_ctl, tick_ctl, hc]; decide)

/-! No step of the invariant stops. -/

/-- The rows of a receive cover every phase and bit count that the invariant leaves. -/
theorem EngineInv.step_receive_total (h : EngineInv s) (hc : s.ctl.isReceive = true) : ∃ t, step s = .next t := by
  have hp := h.phaseFits.1.2 hc
  cases hph : s.phase with
  | none => exact absurd hph (h.phaseFits.phase_ne_none (.inl hc))
  | rxLow => exact ⟨_, step_rxLow hc hph⟩
  | rxHigh => exact ⟨_, step_rxHigh hc hph (h.dataDir_of_receive hc)⟩
  | rxPost =>
    obtain hb | hb := Nat.lt_or_eq_of_le h.bitcntFits.1
    · exact ⟨_, step_rxPost hc hph hb⟩
    · exact ⟨_, step_rxEnd hc hph hb⟩
  | txSetup | txLow | txHigh => simp [hph, Phase.isReceive] at hp

/-- So do the rows of a send. -/
theorem EngineInv.step_send_total (h : EngineInv s) (hc : s.ctl.isSend = true) : ∃ t, step s = .next t := by
  have hp := h.phaseFits.2.2 hc
  cases hph : s.phase with
  | none => exact absurd hph (h.phaseFits.phase_ne_none (.inr hc))
  | txSetup => exact ⟨_, step_txSetup hc hph⟩
  | txLow => exact ⟨_, step_txLow hc hph⟩
  | txHigh =>
    obtain hb | hb := Nat.lt_or_eq_of_le (Nat.succ_le_of_lt (h.sending hc).bitcnt_pos)
    · exact ⟨_, step_txHigh hc hph hb (h.dataDir_of_send hc)⟩
    · exact ⟨_, step_txEnd hc hph hb.symm⟩
  | rxLow | rxHigh | rxPost => simp [hph, Phase.isSend] at hp

/-- Every command's meaning is a next state. -/
theorem exec_total (i : Instr) (s : State) : ∃ t, exec i s = .next t := by
  rcases exec_cases i s with ⟨-, h⟩ | ⟨-, h⟩ | ⟨-, h⟩ | ⟨-, h⟩ | ⟨-, h⟩ | ⟨-, h⟩ | ⟨-, h⟩ <;> exact ⟨_, h⟩

/-- Settles O41, label by label: a wait finds Data an input, a frame's phase and bit count name a row, and the other
labels always answer. -/
theorem noModelFaultUnderInv : Obligations.NoModelFaultUnderInv := by
  intro s hi
  rcases ctl_classes s.ctl with hc | hc | hc | hc | hc | hc | hc | hc | hc
  · obtain ⟨t, ht⟩ := exec_total (decodeUnit .main s.op) s
    exact ⟨arrive t, by rw [step_dispatch hc, ht]; rfl⟩
  · obtain ⟨t, ht⟩ := exec_total (decodeUnit .sub s.op) s
    exact ⟨arrive t, by rw [step_subDispatch hc, ht]; rfl⟩
  · exact ⟨_, step_top hc⟩
  · have hd := (hi.resting (wait_no_frame hc)).dataDir
    by_cases hw : wireData (tick s) = awaited s.ctl
    · exact ⟨_, step_waitEnds hc hd hw⟩
    · exact ⟨_, step_waitPolls hc hd hw⟩
  · exact ⟨_, step_settle hc⟩
  · exact ⟨_, step_subSettle hc⟩
  · exact hi.step_receive_total hc
  · exact hi.step_send_total hc
  · exact ⟨_, step_inqPoll hc⟩

/-- Settles O42, by induction on the number of steps. -/
theorem engineNeverHalts : Obligations.EngineNeverHalts := by
  intro s hi n
  induction n generalizing s with
  | zero => exact ⟨s, rfl, hi⟩
  | succ n ih =>
    obtain ⟨u, hu⟩ := noModelFaultUnderInv s hi
    rw [steps_succ_of_step hu]
    exact ih u (stepKeepsInv s u hi hu)

/-! What the invariant says of the registers that a claim names. -/

theorem isReceive_iff {c : Ctl} : c.isReceive = true ↔ c = .rx ∨ c = .subRx := by simp [Ctl.isReceive]

theorem isSend_iff {c : Ctl} : c.isSend = true ↔ c = .txAnswer ∨ c = .txKeypad := by simp [Ctl.isSend]

/-- Settles O43. -/
theorem phaseIsNoneExactlyOutsideAFrame : Obligations.PhaseIsNoneExactlyOutsideAFrame := by
  refine ⟨fun s hi => ⟨?_, ?_, ?_, hi.bitcntFits.1⟩, fun s t => step_keeps_phaseFits⟩
  · rw [hi.phaseFits.phase_eq_none_iff, ← Bool.not_eq_true, ← Bool.not_eq_true, isReceive_iff, isSend_iff,
      not_or, not_or, and_assoc]
  · rw [hi.phaseFits.1, isReceive_iff]
  · rw [hi.phaseFits.2, isSend_iff]

/-- Clock is high at every label outside a frame (43_command_dispatcher R164). -/
theorem EngineInv.clk_of_no_frame (h : EngineInv s) (hr : s.ctl.isReceive = false) (hs : s.ctl.isSend = false) :
    s.clk = true :=
  let ⟨_, _, _, hk⟩ := h.rest_registers hr hs
  hk

/-- Settles O44: a step that made Clock fall outside a frame would break the invariant. -/
theorem clockFallsOnlyInsideAFrame : Obligations.ClockFallsOnlyInsideAFrame := by
  refine ⟨fun s => EngineInv.clk_of_no_frame, fun s t hi h _ low => ?_⟩
  by_contra outside
  obtain ⟨hr, hs⟩ := not_or.1 outside
  have high := (stepKeepsInv s t hi h).clk_of_no_frame (Bool.eq_false_iff.2 hr) (Bool.eq_false_iff.2 hs)
  simp [low] at high

/-- Arriving switches Data to output only by the entry row of a send, with bit 7 of `tx` (41_bit_transceiver R131,
D16). -/
theorem arrive_output (hd : s.dataDir = .input) (h : (arrive s).dataDir = .output) :
    s.phase = .none ∧ (arrive s).ctl.isSend = true ∧ (arrive s).phase = .txSetup ∧
      (arrive s).dataOut = (arrive s).tx.getLsbD 7 := by
  rcases arrive_cases s with ⟨-, ha⟩ | ⟨-, ha⟩ | ⟨-, -, ha⟩ | ⟨hc, hp, ha⟩ | ⟨-, -, ha⟩
  case inr.inr.inr.inl =>
    rw [ha]
    exact ⟨hp, by simpa using hc, by simp, by simp [txBit]⟩
  all_goals simp [ha, hd] at h

/-- Settles O45: the first two clauses are the invariant's; for the third, every rule but a send's entry leaves Data an
input. -/
theorem dataIsDrivenOnlyWhileSending : Obligations.DataIsDrivenOnlyWhileSending := by
  refine ⟨fun s hi hd => ?_, fun s hi hc => (hi.resting (wait_no_frame hc)).dataDir, fun s t h hd ho => ?_⟩
  · have hp := hi.dataDirFits.1 hd
    exact ⟨hi.phaseFits.2.1 hp, hi.dataOutFits hp⟩
  · cases step_next h with
    | instant _ _ ht | modelNumber _ _ ht | test _ _ ht | subInstant _ _ ht | waitEnds _ _ _ ht | settle _ ht
    | subSettle _ ht | inqMarker _ _ _ _ ht | inqKey _ _ _ _ ht | inqDeadline _ _ _ ht =>
      subst ht
      have entered := arrive_output (by simpa using hd) ho
      exact entered
    | txEnter hc hp ht =>
      subst ht
      exact ⟨hp, hc, rfl, rfl⟩
    | _ =>
      rename_i ht
      simp [ht, hd] at ho

/-! Reset. -/

/-- Settles O39: the reset state is at rest at L_TOP, at time 0. -/
theorem resetMeetsInv : Obligations.ResetMeetsInv := by
  have rest : Resting State.reset :=
    ⟨rfl, Nat.zero_le 8, rfl, rfl, le_rfl, by simp [MarkerFits, State.reset, contextOf],
      by simp [AnnounceFits, State.reset], by simp [InquiryFits, State.reset], by simp [HostTimeFits, State.reset]⟩
  exact rest.engineInv ⟨rfl, rfl, rfl⟩

/-- Settles O38: the registers are those of R43, and L_TOP releases Data and goes to L_IDLE. -/
theorem resetStartsAtTheTop : Obligations.ResetStartsAtTheTop :=
  ⟨rfl, rfl, rfl, rfl, _, step_top rfl, rfl, rfl, rfl, rfl⟩

end Sys2Proof.Machine
end

section
/-! Dead registers (70_reset_and_hazards R231, R238): a step commutes with writing any values into the registers that
are dead where it begins. -/

namespace Sys2Proof.Machine

variable {s t u : State}

/-- Values for the registers that are dead somewhere. -/
structure DeadRegs where
  bitcnt : Nat
  acc : Byte
  op : Byte
  tx : Byte
  marker : Byte
  tEntry : Nat
  tHoldEnd : Nat
  dataOut : Bit

/-- `s` with those registers written. -/
def withRegs (s : State) (r : DeadRegs) : State :=
  { s with
    bitcnt := r.bitcnt, acc := r.acc, op := r.op, tx := r.tx, marker := r.marker, tEntry := r.tEntry
    tHoldEnd := r.tHoldEnd, dataOut := r.dataOut }

variable {r : DeadRegs}

/-- `r` has the values of the live registers of `s`, where a hold is live if `held` says so. -/
def AgreesWhere (held : Prop) (s : State) (r : DeadRegs) : Prop :=
  (s.phase ≠ .none → s.bitcnt = r.bitcnt) ∧
  (s.phase.isReceive = true → s.acc = r.acc) ∧
  (opLive s.ctl = true → s.op = r.op) ∧
  (s.ctl.isSend = true → s.tx = r.tx) ∧
  (contextOf s.ctl = .sub → s.marker = r.marker) ∧
  (s.ctl = .inqPoll → s.tEntry = r.tEntry) ∧
  (held → s.tHoldEnd = r.tHoldEnd) ∧
  (s.dataDir = .output → s.dataOut = r.dataOut)

/-- Between two steps the end of a hold is live inside a frame and at a settle label. -/
abbrev Agrees (s : State) (r : DeadRegs) : Prop := AgreesWhere (s.phase ≠ .none ∨ s.ctl.isSettle = true) s r

/-- Just before arriving at a settle label its hold has not begun. -/
abbrev AgreesArriving (s : State) (r : DeadRegs) : Prop := AgreesWhere (s.phase ≠ .none) s r

theorem Agrees.arriving (h : Agrees s r) : AgreesArriving s r := by
  obtain ⟨hbitcnt, hacc, hop, htx, hmarker, htEntry, hhold, hdataOut⟩ := h
  exact ⟨hbitcnt, hacc, hop, htx, hmarker, htEntry, fun hp => hhold (.inl hp), hdataOut⟩

/-- Two states agree on their live registers exactly when one is the other with dead registers written. -/
theorem sameLive_iff : SameLive s t ↔ ∃ r, t = withRegs s r ∧ Agrees s r := by
  constructor
  · rintro ⟨⟨h₁, h₂, h₃, h₄⟩, ⟨h₅, h₆, h₇, h₈, h₉, h₁₀, h₁₁, h₁₂, h₁₃, h₁₄, h₁₅, h₁₆⟩, live⟩
    refine ⟨⟨t.bitcnt, t.acc, t.op, t.tx, t.marker, t.tEntry, t.tHoldEnd, t.dataOut⟩, ?_, live⟩
    cases t
    simp_all [withRegs]
  · rintro ⟨r, rfl, live⟩
    exact ⟨⟨rfl, rfl, rfl, rfl⟩, ⟨rfl, rfl, rfl, rfl, rfl, rfl, rfl, rfl, rfl, rfl, rfl, rfl⟩, live⟩

theorem sameLive_withRegs (h : Agrees s r) : SameLive s (withRegs s r) := sameLive_iff.2 ⟨r, rfl, h⟩

/-! Every operation commutes with writing dead registers, up to the registers it writes itself. -/

@[simp] theorem withRegs_ctl : (withRegs s r).ctl = s.ctl := rfl
@[simp] theorem withRegs_phase : (withRegs s r).phase = s.phase := rfl

theorem tick_withRegs : tick (withRegs s r) = withRegs (tick s) r := rfl

theorem endHold_withRegs (h : s.tHoldEnd = r.tHoldEnd) : endHold (withRegs s r) = withRegs (endHold s) r := by
  cases r
  subst h
  rfl

theorem hold_withRegs (D : Nat) :
    hold D (withRegs s r) = withRegs (hold D s) { r with tHoldEnd := (hold D s).tHoldEnd } := rfl

theorem rxEntry_withRegs : rxEntry (withRegs s r) =
    withRegs (rxEntry s) { r with acc := 0, bitcnt := 0, tHoldEnd := (rxEntry s).tHoldEnd } := rfl

theorem txEntry_withRegs (h : s.tx = r.tx) : txEntry (withRegs s r) = withRegs (txEntry s)
    { r with bitcnt := 8, tHoldEnd := (txEntry s).tHoldEnd, dataOut := (txEntry s).dataOut } := by
  cases r
  subst h
  rfl

/-- What an arrival writes it writes alike: the hold of a settle label, and the entry row of a frame. -/
theorem sameLive_arrive (h : AgreesArriving s r) : SameLive (arrive s) (arrive (withRegs s r)) := by
  obtain ⟨hbitcnt, hacc, hop, htx, hmarker, htEntry, hhold, hdataOut⟩ := h
  rcases arrive_cases s with ⟨hc, ha⟩ | ⟨hc, ha⟩ | ⟨hc, hp, ha⟩ | ⟨hc, hp, ha⟩ | ⟨hc, hf, ha⟩ <;> rw [ha]
  · rw [arrive_settle (s := withRegs s r) hc, hold_withRegs]
    exact sameLive_withRegs ⟨hbitcnt, hacc, hop, htx, hmarker, htEntry, fun _ => rfl, hdataOut⟩
  · rw [arrive_subSettle (s := withRegs s r) hc, hold_withRegs]
    exact sameLive_withRegs ⟨hbitcnt, hacc, hop, htx, hmarker, htEntry, fun _ => rfl, hdataOut⟩
  · rw [arrive_receive (s := withRegs s r) hc hp, rxEntry_withRegs]
    exact sameLive_withRegs ⟨fun _ => rfl, fun _ => rfl, hop, htx, hmarker, htEntry, fun _ => rfl, hdataOut⟩
  · rw [arrive_send (s := withRegs s r) hc hp, txEntry_withRegs (htx hc)]
    exact sameLive_withRegs ⟨fun _ => rfl, fun hr => by simp [Phase.isReceive] at hr, hop, htx, hmarker, htEntry,
      fun _ => rfl, fun _ => rfl⟩
  · have same : arrive (withRegs s r) = withRegs s r := by
      rcases arrive_cases (withRegs s r) with ⟨hc', -⟩ | ⟨hc', -⟩ | ⟨hc', hp, -⟩ | ⟨hc', hp, -⟩ | ⟨-, -, h⟩
      · simp [show s.ctl = .settle from hc', Ctl.isSettle] at hc
      · simp [show s.ctl = .subSettle from hc', Ctl.isSettle] at hc
      · exact absurd hp (hf (.inl hc'))
      · exact absurd hp (hf (.inr hc'))
      · exact h
    rw [same]
    exact sameLive_withRegs ⟨hbitcnt, hacc, hop, htx, hmarker, htEntry,
      fun h => hhold (h.resolve_right (by simp [hc])), hdataOut⟩

/-! What each rule's transfer of control leaves live. -/

/-- A transfer to a label at which no more is live than before it. -/
theorem AgreesArriving.goto (h : AgreesArriving s r) {L : Ctl} (hop : opLive L = true → opLive s.ctl = true)
    (htx : L.isSend = false) (hm : contextOf L = .sub → contextOf s.ctl = .sub) (hq : L ≠ .inqPoll) :
    AgreesArriving (goto L s) r := by
  obtain ⟨hbitcnt, hacc, hop', -, hmarker, -, hhold, hdataOut⟩ := h
  exact ⟨hbitcnt, hacc, fun hL => hop' (hop hL), fun hL => absurd hL (Bool.eq_false_iff.1 htx),
    fun hL => hmarker (hm hL), fun hL => absurd hL hq, hhold, hdataOut⟩

/-- An answer writes `tx`, which is then the only register of the command that is live. -/
theorem AgreesArriving.answer (h : AgreesArriving s r) (v : Byte) :
    AgreesArriving (sendAt .txAnswer v s) { r with tx := v } := by
  obtain ⟨hbitcnt, hacc, -, -, -, -, hhold, hdataOut⟩ := h
  exact ⟨hbitcnt, hacc, by simp [opLive], fun _ => rfl, by simp [contextOf], by simp, hhold, hdataOut⟩

/-- KeypadAnnounce writes `tx` and `marker`. -/
theorem AgreesArriving.announce (h : AgreesArriving s r) (b : Byte) :
    AgreesArriving (sendAt .txKeypad rspKeypad { s with marker := b }) { r with tx := rspKeypad, marker := b } := by
  obtain ⟨hbitcnt, hacc, -, -, -, -, hhold, hdataOut⟩ := h
  exact ⟨hbitcnt, hacc, by simp [opLive], fun _ => rfl, fun _ => rfl, by simp, hhold, hdataOut⟩

/-- Inquiry writes `t_entry`. -/
theorem AgreesArriving.enterInquiry (h : AgreesArriving s r) :
    AgreesArriving { s with tEntry := s.now, ctl := .inqPoll } { r with tEntry := s.now } := by
  obtain ⟨hbitcnt, hacc, -, -, -, -, hhold, hdataOut⟩ := h
  exact ⟨hbitcnt, hacc, by simp [opLive], by simp [Ctl.isSend], by simp [contextOf], fun _ => rfl, hhold, hdataOut⟩

/-! A poll of the Inquiry loop, where it is known which of its four outcomes it has (44_inquiry_handler R180). -/

theorem inquiryPoll_marker {b : Byte} (hk : s.takeAt 0 = some b) (hm : isMarker s.cfg b = true) :
    inquiryPoll s = sendAt .txKeypad rspKeypad { taken s with marker := b } := by
  simp [inquiryPoll, take, hk, keyOutcome, hm]

theorem inquiryPoll_key {b : Byte} (hk : s.takeAt 0 = some b) (hm : isMarker s.cfg b = false) :
    inquiryPoll s = sendAt .txAnswer b (taken s) := by
  simp [inquiryPoll, take, hk, keyOutcome, hm]

theorem inquiryPoll_deadline (hk : s.takeAt 0 = none) (hd : inquiryTimeoutUs ≤ s.now - s.tEntry) :
    inquiryPoll s = sendAt .txAnswer rspNoKey (taken s) := by
  simp [inquiryPoll, take, hk, deadlineOutcome, hd]

theorem inquiryPoll_polls (hk : s.takeAt 0 = none) (hd : s.now - s.tEntry < inquiryTimeoutUs) :
    inquiryPoll s = pollWait (taken s) := by
  simp [inquiryPoll, take, hk, Nat.not_le.2 hd]

/-! The step at each class of labels. -/

/-- A command reads no dead register: only the sub context's Instant reads `marker`. -/
theorem sameLive_exec (h : AgreesArriving s r) {i : Instr} (hm : i.context = .sub → s.marker = r.marker) :
    SameLiveOutcome (andThen (exec i s) arrive) (andThen (exec i (withRegs s r)) arrive) := by
  cases i with
  | inquiry => exact sameLive_arrive h.enterInquiry
  | instant => exact sameLive_arrive (AgreesArriving.answer (s := taken s) h _)
  | modelNumber => exact sameLive_arrive (h.answer _)
  | test => exact sameLive_arrive (h.answer _)
  | unknown => exact sameLive_arrive (h.goto (by simp [opLive]) rfl (by simp [contextOf]) (by simp))
  | subInstant =>
    have hm := hm rfl
    have marker : (withRegs s r).marker = s.marker := hm.symm
    change SameLive (arrive _) (arrive (sendAt .txAnswer (translateMarker s.cfg (withRegs s r).marker) (withRegs s r)))
    rw [marker]
    exact sameLive_arrive (h.answer _)
  | subDrop => exact sameLive_arrive (h.goto (by simp [opLive]) rfl (by simp [contextOf]) (by simp))

theorem decodeUnit_context (ctx : Context) (u : Byte) : (decodeUnit ctx u).context = ctx :=
  (decodeUnit_sound ctx u).2.1

theorem sameLive_step_dispatch (h : Agrees s r) (hc : s.ctl = .dispatch) :
    SameLiveOutcome (step s) (step (withRegs s r)) := by
  have ⟨_, _, op_live, _⟩ := h
  have hop : s.op = (withRegs s r).op := op_live (by rw [hc]; rfl)
  rw [step_dispatch hc, step_dispatch (s := withRegs s r) hc, ← hop]
  exact sameLive_exec h.arriving (by simp [decodeUnit_context])

theorem sameLive_step_subDispatch (h : Agrees s r) (hc : s.ctl = .subDispatch) :
    SameLiveOutcome (step s) (step (withRegs s r)) := by
  have ⟨_, _, op_live, _, marker_live, _⟩ := h
  have hop : s.op = (withRegs s r).op := op_live (by rw [hc]; rfl)
  have hmarker : s.marker = r.marker := marker_live (by rw [hc]; rfl)
  rw [step_subDispatch hc, step_subDispatch (s := withRegs s r) hc, ← hop]
  exact sameLive_exec h.arriving fun _ => hmarker

theorem sameLive_step_top (h : Agrees s r) (hc : s.ctl = .top) :
    SameLiveOutcome (step s) (step (withRegs s r)) := by
  rw [step_top hc, step_top (s := withRegs s r) hc]
  obtain ⟨hbitcnt, hacc, -, -, -, -, hhold, -⟩ := h.arriving
  exact sameLive_withRegs ⟨hbitcnt, hacc, by simp [opLive], by simp [Ctl.isSend], by simp [contextOf], by simp,
    fun hp => hhold (hp.resolve_right (by simp [Ctl.isSettle])), by simp⟩

/-- A wait reads no register at all. -/
theorem sameLive_step_wait (h : Agrees s r) (hc : s.ctl.isWait = true) :
    SameLiveOutcome (step s) (step (withRegs s r)) := by
  rw [step_wait hc, step_wait (s := withRegs s r) hc, tick_withRegs, withRegs_ctl]
  have same_sample : readData (withRegs (tick s) r) = readData (tick s) := rfl
  simp only [waitData, same_sample]
  cases readData (tick s) with
  | error f => exact rfl
  | ok b =>
    by_cases hb : b = awaited s.ctl <;> simp only [hb, if_true, if_false]
    · refine sameLive_arrive (AgreesArriving.goto (s := tick s) h.arriving ?_ ?_ ?_ ?_) <;>
        rcases isWait_cases hc with h | h | h | h <;>
          simp [h, afterWait, opLive, contextOf, Ctl.isSend]
    · exact sameLive_arrive (s := pollWait (tick s)) h.arriving

/-- A settle label reads the end of its hold. -/
theorem sameLive_step_settle (h : Agrees s r) (hc : s.ctl = .settle) :
    SameLiveOutcome (step s) (step (withRegs s r)) := by
  have ⟨_, _, _, _, _, _, hold_live, _⟩ := h
  have hhold : s.tHoldEnd = r.tHoldEnd := hold_live (.inr (by rw [hc]; rfl))
  rw [step_settle hc, step_settle (s := withRegs s r) hc, endHold_withRegs hhold]
  exact sameLive_arrive (AgreesArriving.goto (s := tick (endHold s)) h.arriving (by simp [opLive]) rfl
    (by simp [contextOf]) (by simp))

theorem sameLive_step_subSettle (h : Agrees s r) (hc : s.ctl = .subSettle) :
    SameLiveOutcome (step s) (step (withRegs s r)) := by
  have ⟨_, _, _, _, _, _, hold_live, _⟩ := h
  have hhold : s.tHoldEnd = r.tHoldEnd := hold_live (.inr (by rw [hc]; rfl))
  rw [step_subSettle hc, step_subSettle (s := withRegs s r) hc, endHold_withRegs hhold]
  exact sameLive_arrive (AgreesArriving.goto (s := tick (endHold s)) h.arriving (by simp [opLive]) rfl
    (by simp [contextOf, hc]) (by simp))

/-- A poll of the Inquiry loop reads `t_entry`. -/
theorem sameLive_step_inqPoll (h : Agrees s r) (hc : s.ctl = .inqPoll) :
    SameLiveOutcome (step s) (step (withRegs s r)) := by
  have ⟨_, _, _, _, _, tEntry_live, _, _⟩ := h
  have htEntry : s.tEntry = r.tEntry := tEntry_live hc
  have polled : AgreesArriving (taken (tick s)) r := h.arriving
  rw [step_inqPoll hc, step_inqPoll (s := withRegs s r) hc, tick_withRegs]
  cases hk : s.takeAt 0 with
  | some b =>
    cases hm : isMarker s.cfg b with
    | true =>
      rw [inquiryPoll_marker (s := tick s) hk hm, inquiryPoll_marker (s := withRegs (tick s) r) hk hm]
      exact sameLive_arrive (polled.announce b)
    | false =>
      rw [inquiryPoll_key (s := tick s) hk hm, inquiryPoll_key (s := withRegs (tick s) r) hk hm]
      exact sameLive_arrive (polled.answer b)
  | none =>
    obtain hd | hd := Nat.lt_or_ge (s.now - s.tEntry) inquiryTimeoutUs
    · have hd' : s.now - r.tEntry < inquiryTimeoutUs := htEntry ▸ hd
      rw [inquiryPoll_polls (s := tick s) hk hd, inquiryPoll_polls (s := withRegs (tick s) r) hk hd']
      exact sameLive_arrive (s := pollWait (taken (tick s))) polled
    · have hd' : inquiryTimeoutUs ≤ s.now - r.tEntry := htEntry ▸ hd
      rw [inquiryPoll_deadline (s := tick s) hk hd,
        inquiryPoll_deadline (s := withRegs (tick s) r) hk hd']
      exact sameLive_arrive (polled.answer rspNoKey)

/-! The rows of a frame read the frame's registers, which are live in every phase but NONE. -/

/-- The registers that every row reads. -/
theorem Agrees.frame_registers (h : Agrees s r) (hp : s.phase ≠ .none) :
    s.bitcnt = r.bitcnt ∧ endHold (withRegs s r) = withRegs (endHold s) r := by
  obtain ⟨hbitcnt, -, -, -, -, -, hhold, -⟩ := h
  exact ⟨hbitcnt hp, endHold_withRegs (hhold (.inl hp))⟩

/-- The hold before a row has ended and the host has moved: nothing of this touches the frame's registers. -/
theorem Agrees.at_row (h : Agrees s r) : AgreesArriving (tick (endHold s)) r := h.arriving

/-! What each row writes, it writes alike. -/

/-- A row that moves Clock and begins a hold. -/
theorem sameLive_clockRow {p : Phase} (l : Bit) (D : Nat) (h : AgreesArriving s r) (hp : s.phase ≠ .none)
    (hr : p.isReceive = true → s.phase.isReceive = true) :
    SameLive (arrive (setPhase p (hold D (setClock l s))))
      (arrive (setPhase p (hold D (setClock l (withRegs s r))))) := by
  obtain ⟨hbitcnt, hacc, hop, htx, hmarker, htEntry, -, hdataOut⟩ := h
  exact sameLive_arrive (s := setPhase p (hold D (setClock l s)))
    (r := { r with tHoldEnd := (hold D (setClock l s)).tHoldEnd })
    ⟨fun _ => hbitcnt hp, fun h => hacc (hr h), hop, htx, hmarker, htEntry, fun _ => rfl, hdataOut⟩

theorem sameLive_rxFold (h : AgreesArriving s r) (hp : s.phase.isReceive = true) (b : Bit) :
    SameLive (arrive (rxFold b s)) (arrive (rxFold b (withRegs s r))) := by
  obtain ⟨hbitcnt, hacc, hop, htx, hmarker, htEntry, -, hdataOut⟩ := h
  have hp' : s.phase ≠ .none := fun h => by simp [h, Phase.isReceive] at hp
  exact sameLive_arrive (s := rxFold b s)
    (r := { r with acc := shiftIn r.acc b, bitcnt := r.bitcnt + 1, tHoldEnd := (rxFold b s).tHoldEnd })
    ⟨fun _ => congrArg (· + 1) (hbitcnt hp'), fun _ => congrArg (shiftIn · b) (hacc hp), hop, htx, hmarker, htEntry,
      fun _ => rfl, hdataOut⟩

theorem rxEnd_withRegs (L : Ctl) (a : Byte) : goto L (setPhase .none { withRegs s r with op := a }) =
    withRegs (goto L (setPhase .none { s with op := a })) { r with op := a } := rfl

/-- The last row of a receive moves the accumulator, live until then, to `op`, live from then on. -/
theorem sameLive_step_rxEnd (h : Agrees s r) (hc : s.ctl.isReceive = true) (hp : s.phase = .rxPost)
    (hb : s.bitcnt = 8) : SameLiveOutcome (step s) (step (withRegs s r)) := by
  obtain ⟨same_bitcnt, he⟩ := h.frame_registers (by simp [hp])
  obtain ⟨-, hacc, -, -, hmarker, -, -, hdataOut⟩ := h
  have same_acc : (withRegs s r).acc = s.acc := (hacc (by rw [hp]; rfl)).symm
  rw [step_rxEnd hc hp hb, step_rxEnd (s := withRegs s r) hc hp (same_bitcnt.symm.trans hb), same_acc, he,
    tick_withRegs, rxEnd_withRegs, withRegs_ctl]
  refine sameLive_withRegs ⟨fun hp => absurd rfl hp, fun hp => ?_, fun _ => rfl, fun hL => ?_, fun hL => ?_,
    fun hL => ?_, fun hL => ?_, hdataOut⟩
  · simp [Phase.isReceive] at hp
  · simp [(afterReceive_no_frame s.ctl).2.1] at hL
  · exact hmarker (by rwa [goto_ctl, contextOf_afterReceive hc] at hL)
  · rcases isReceive_cases hc with hc | hc <;> simp [hc, afterReceive] at hL
  · simp [(afterReceive_no_frame s.ctl).2.2] at hL

/-- The row that sets the next bit, to the values that `tx` and the bit count give. -/
theorem sameLive_txNextBit (h : AgreesArriving s r) (n : Nat) (b : Bit) :
    SameLive (arrive (txBeginSetup { s with bitcnt := n, dataOut := b }))
      (arrive (txBeginSetup { withRegs s r with bitcnt := n, dataOut := b })) := by
  obtain ⟨-, -, hop, htx, hmarker, htEntry, -, -⟩ := h
  exact sameLive_arrive (s := txBeginSetup { s with bitcnt := n, dataOut := b })
    (r := { r with
      bitcnt := n, dataOut := b, tHoldEnd := (txBeginSetup { s with bitcnt := n, dataOut := b }).tHoldEnd })
    ⟨fun _ => rfl, by simp [Phase.isReceive], hop, htx, hmarker, htEntry, fun _ => rfl, fun _ => rfl⟩

theorem txEnd_withRegs (L : Ctl) :
    goto L (setPhase .none (setDataDirection .input { withRegs s r with bitcnt := 0 })) =
      withRegs (goto L (setPhase .none (setDataDirection .input { s with bitcnt := 0 }))) { r with bitcnt := 0 } := rfl

/-- The last row of a send leaves of its registers none live. -/
theorem sameLive_step_txEnd (h : Agrees s r) (hc : s.ctl.isSend = true) (hp : s.phase = .txHigh)
    (hb : s.bitcnt = 1) : SameLiveOutcome (step s) (step (withRegs s r)) := by
  obtain ⟨same_bitcnt, he⟩ := h.frame_registers (by simp [hp])
  obtain ⟨-, -, -, -, hmarker, -, -, -⟩ := h
  rw [step_txEnd hc hp hb, step_txEnd (s := withRegs s r) hc hp (same_bitcnt.symm.trans hb), he, tick_withRegs,
    txEnd_withRegs, withRegs_ctl]
  refine sameLive_withRegs ⟨fun hp => absurd rfl hp, fun hp => ?_, fun hL => ?_, fun hL => ?_, fun hL => ?_,
    fun hL => ?_, fun hL => ?_, fun hd => ?_⟩
  · simp [Phase.isReceive] at hp
  · rcases isSend_cases hc with hc | hc <;> simp [hc, afterSend, opLive] at hL
  · simp [(afterSend_no_frame s.ctl).2.1] at hL
  · exact hmarker (by rwa [goto_ctl, contextOf_afterSend hc] at hL)
  · rcases isSend_cases hc with hc | hc <;> simp [hc, afterSend] at hL
  · simp [(afterSend_no_frame s.ctl).2.2] at hL
  · simp at hd

theorem sameLive_step_receive (h : Agrees s r) (hc : s.ctl.isReceive = true) :
    SameLiveOutcome (step s) (step (withRegs s r)) := by
  have hrow := h.at_row
  by_cases hend : s.phase = .rxPost ∧ s.bitcnt = 8
  · exact sameLive_step_rxEnd h hc hend.1 hend.2
  rw [step_receive hc, step_receive (s := withRegs s r) hc]
  cases hp : s.phase with
  | none =>
    simp only [stepReceive, withRegs_phase, hp]
    exact sameLive_arrive (s := tick s) h.arriving
  | rxLow =>
    obtain ⟨-, he⟩ := h.frame_registers (by simp [hp])
    simp only [stepReceive, withRegs_phase, hp, he, tick_withRegs]
    exact sameLive_clockRow true s.cfg.rxSampleUs hrow (by simp [hp]) (by simp [hp, Phase.isReceive])
  | rxHigh =>
    obtain ⟨-, he⟩ := h.frame_registers (by simp [hp])
    have same_sample : readData (withRegs (tick (endHold s)) r) = readData (tick (endHold s)) := rfl
    simp only [stepReceive, withRegs_phase, hp, he, tick_withRegs, same_sample]
    cases readData (tick (endHold s)) with
    | error f => exact rfl
    | ok b => exact sameLive_rxFold hrow (by simp [hp, Phase.isReceive]) b
  | rxPost =>
    obtain ⟨hb, he⟩ := h.frame_registers (by simp [hp])
    have same_bitcnt : (withRegs s r).bitcnt = s.bitcnt := hb.symm
    have hreceive : s.phase.isReceive = true := by simp [hp, Phase.isReceive]
    simp only [stepReceive, withRegs_phase, hp, he, tick_withRegs, same_bitcnt, withRegs_ctl]
    rw [if_neg fun h8 => hend ⟨hp, h8⟩, if_neg fun h8 => hend ⟨hp, h8⟩]
    split
    · exact sameLive_clockRow false s.cfg.rxLowUs hrow (by simp [hp]) fun _ => hreceive
    · rfl
  | txSetup | txLow | txHigh =>
    simp only [stepReceive, withRegs_phase, hp]
    rfl

theorem sameLive_step_send (h : Agrees s r) (hc : s.ctl.isSend = true) :
    SameLiveOutcome (step s) (step (withRegs s r)) := by
  have hrow := h.at_row
  by_cases hend : s.phase = .txHigh ∧ s.bitcnt = 1
  · exact sameLive_step_txEnd h hc hend.1 hend.2
  rw [step_send hc, step_send (s := withRegs s r) hc]
  cases hp : s.phase with
  | none =>
    simp only [stepSend, withRegs_phase, hp]
    exact sameLive_arrive (s := tick s) h.arriving
  | txSetup =>
    obtain ⟨-, he⟩ := h.frame_registers (by simp [hp])
    simp only [stepSend, withRegs_phase, hp, he, tick_withRegs]
    exact sameLive_clockRow false s.cfg.txLowUs hrow (by simp [hp]) (by simp [Phase.isReceive])
  | txLow =>
    obtain ⟨-, he⟩ := h.frame_registers (by simp [hp])
    simp only [stepSend, withRegs_phase, hp, he, tick_withRegs]
    exact sameLive_clockRow true s.cfg.txHighUs hrow (by simp [hp]) (by simp [Phase.isReceive])
  | txHigh =>
    obtain ⟨hb, he⟩ := h.frame_registers (by simp [hp])
    have same_bitcnt : (withRegs s r).bitcnt = s.bitcnt := hb.symm
    have ⟨_, _, _, tx_live, _⟩ := h
    have same_tx : (withRegs s r).tx = s.tx := (tx_live hc).symm
    simp only [stepSend, withRegs_phase, hp, he, tick_withRegs, same_bitcnt, same_tx, withRegs_ctl]
    rw [if_neg fun h1 => hend ⟨hp, h1⟩, if_neg fun h1 => hend ⟨hp, h1⟩]
    split
    · cases hd : s.dataDir with
      | output =>
        rw [setData_of_output (by exact hd), setData_of_output (by exact hd)]
        exact sameLive_txNextBit hrow _ _
      | input =>
        rw [setData_of_input _ (by exact hd), setData_of_input _ (by exact hd)]
        rfl
    · rfl
  | rxLow | rxHigh | rxPost =>
    simp only [stepSend, withRegs_phase, hp]
    rfl

/-! Any number of steps. -/

/-- One step, from states that agree on their live registers. -/
theorem sameLive_step (h : SameLive s t) : SameLiveOutcome (step s) (step t) := by
  obtain ⟨r, rfl, ha⟩ := sameLive_iff.1 h
  rcases ctl_classes s.ctl with hc | hc | hc | hc | hc | hc | hc | hc | hc
  · exact sameLive_step_dispatch ha hc
  · exact sameLive_step_subDispatch ha hc
  · exact sameLive_step_top ha hc
  · exact sameLive_step_wait ha hc
  · exact sameLive_step_settle ha hc
  · exact sameLive_step_subSettle ha hc
  · exact sameLive_step_receive ha hc
  · exact sameLive_step_send ha hc
  · exact sameLive_step_inqPoll ha hc

/-- What the host reads depends on no dead register. -/
theorem sameLive_samples {s' t' : State} (h : SameLive s t) (h' : SameLive s' t') :
    hostSamples s s' = hostSamples t t' ∧ dataSeenByHost s' = dataSeenByHost t' := by
  obtain ⟨⟨-, -, hclk, -⟩, -⟩ := h
  obtain ⟨⟨-, -, hclk', hdir'⟩, ⟨hdrive', -, -, hcount', -⟩, -, -, -, -, -, -, -, hout'⟩ := h'
  constructor
  · simp only [hostSamples, hclk, hclk', hdir']
  · cases hd : t'.dataDir with
    | input => simp only [dataSeenByHost, hdir', hd, wireData, hdrive']
    | output => simp only [dataSeenByHost, hdir', hd, hdrive', hcount', hout' (hdir'.trans hd)]

/-- A run and what the host reads in it, by induction on the number of steps. -/
theorem sameLive_steps (n : Nat) (h : SameLive s t) :
    SameLiveOutcome (steps n s) (steps n t) ∧ hostReads n s = hostReads n t := by
  induction n generalizing s t with
  | zero => exact ⟨h, rfl⟩
  | succ n ih =>
    have hstep := sameLive_step h
    cases hs : step s <;> cases ht : step t <;> rw [hs, ht] at hstep
    case next.next s' t' =>
      obtain ⟨houtcome, hreads⟩ := ih hstep
      obtain ⟨hsample, hseen⟩ := sameLive_samples h hstep
      rw [steps_succ_of_step hs, steps_succ_of_step ht]
      exact ⟨houtcome, by simp only [hostReads, hs, ht, hsample, hseen, hreads]⟩
    case fault.fault e f =>
      simp only [steps, hostReads, hs, ht]
      exact ⟨hstep, trivial⟩
    case refused.refused e f =>
      simp only [steps, hostReads, hs, ht]
      exact ⟨hstep, trivial⟩
    all_goals exact hstep.elim

/-- Settles O52: at L_TOP in phase NONE none of the eight registers is live. -/
theorem deadRegistersNeverMatter : Obligations.DeadRegistersNeverMatter := by
  refine ⟨fun n _ _ h => sameLive_steps n h, fun bitcnt tEntry tHoldEnd acc op tx marker dataOut => ?_⟩
  refine sameLive_withRegs (r := ⟨bitcnt, acc, op, tx, marker, tEntry, tHoldEnd, dataOut⟩) ?_
  simp [Agrees, AgreesWhere, State.reset, opLive, contextOf, Phase.isReceive, Ctl.isSend, Ctl.isSettle]

end Sys2Proof.Machine
end

section
/-! The wait labels and the time of the host's signal (40_line_interface R107, 60_exceptions R203). -/

namespace Sys2Proof.Machine

variable {s t u : State}

theorem pollWait_tick_eq (s : State) : pollWait (tick s) = { tick s with
    now := s.now + pollDuration s.cfg (s.drawAt 0), draws := s.draws.tail, drawCount := s.drawCount + 1 } := rfl

/-- Settles O23: the sample ends the wait or a poll period passes. -/
theorem waitLabelsPollTheirLevel : Obligations.WaitLabelsPollTheirLevel := by
  intro s hc hd
  refine ⟨fun hw => step_waitEnds hc hd hw, fun hw => ?_⟩
  obtain ⟨pos, le_max⟩ := pollDuration_bounds s.cfg (s.drawAt 0)
  exact ⟨_, pos, le_max, (step_waitPolls hc hd hw).trans (congrArg _ (pollWait_tick_eq s))⟩

/-- Settles O26, by induction on the number of steps: each sample reads the other level and a poll period passes. -/
theorem blockedWaitNeverEnds : Obligations.BlockedWaitNeverEnds := by
  intro n
  induction n with
  | zero => exact fun s _ hd _ => ⟨s, rfl, rfl, rfl, rfl, rfl, rfl, rfl, hd, rfl, rfl, rfl⟩
  | succ n ih =>
    intro s hc hd blocked
    have poll : step s = .next (pollWait (tick s)) := step_waitPolls hc hd (blocked 0 (by omega))
    rw [steps_succ_of_step poll]
    exact ih (pollWait (tick s)) hc hd fun k hk => by simpa using blocked (k + 1) (by omega)

/-! When the host's change came. -/

/-- Settles O24: `hostSinceAfter` keeps the time of an old level and draws that of a new one from the whole interval. -/
theorem hostMovesAtAnyTimeSinceTheLastStep : Obligations.HostMovesAtAnyTimeSinceTheLastStep := by
  intro s hl
  refine ⟨⟨hostSinceAfter (s.hostAt 0) s, rfl, fun same => if_pos same, fun change => ?_⟩,
    fun x hx hx' change => ⟨x - s.lastMove, ?_⟩⟩
  · obtain ⟨same, -⟩ | ⟨-, since⟩ := hostSinceAfter_cases (s.hostAt 0) hl
    · exact absurd same change
    · exact since
  · have first_draw : ({ s with moveDraws := (x - s.lastMove) :: s.moveDraws.tail } : State).moveDrawAt 0 =
        x - s.lastMove := rfl
    exact (if_neg change).trans (by rw [first_draw]; exact drawBetween_of_sub hx hx')

/-- A level that is new under the invariant came since the last move, and no longer ago than a poll period. -/
theorem hostSince_of_change (hi : EngineInv s) (change : wireData s ≠ levelOf (s.hostAt 0)) :
    s.lastMove ≤ (tick s).hostSince ∧ (tick s).hostSince ≤ s.now ∧ s.now ≤ (tick s).hostSince + s.cfg.pollMaxUs := by
  obtain ⟨-, past, recent⟩ := hi.hostTimeFits
  obtain ⟨same, -⟩ | ⟨-, since⟩ := hostSinceAfter_cases (s.hostAt 0) past
  · exact absurd (congrArg levelOf same).symm change
  · rw [tick_hostSince]
    omega

/-- The draws with which a wait that samples the other level once more finds a change `lag` µs old: a poll period of
POLL_MAX_US, and the change that long before its end. -/
def lateSample (lag : Nat) (s : State) : State :=
  { s with draws := [s.cfg.pollMaxUs - 1], moveDraws := [0, s.cfg.pollMaxUs - lag] }

theorem lateSample_polls (lag : Nat) (s : State) :
    (pollWait (tick (lateSample lag s))).now = s.now + s.cfg.pollMaxUs := by
  have pos := s.cfg.pollMax_pos
  have period : pollDuration s.cfg (s.cfg.pollMaxUs - 1) = s.cfg.pollMaxUs := drawBetween_of_sub pos le_rfl
  exact congrArg (s.now + ·) period

theorem lateSample_change (lag : Nat) {s : State} (change : s.hostAt 1 ≠ s.hostAt 0) :
    (tick (pollWait (tick (lateSample lag s)))).hostSince = s.now + (s.cfg.pollMaxUs - lag) := by
  have now_eq := lateSample_polls lag s
  have next_level : (pollWait (tick (lateSample lag s))).hostAt 0 = s.hostAt 1 := tick_hostAt (lateSample lag s) 0
  have draw : (pollWait (tick (lateSample lag s))).moveDrawAt 0 = s.cfg.pollMaxUs - lag := rfl
  have last_move : (pollWait (tick (lateSample lag s))).lastMove = s.now := rfl
  have this_level : (pollWait (tick (lateSample lag s))).hostDrive = s.hostAt 0 := rfl
  rw [tick_hostSince, hostSinceAfter, next_level, this_level, if_neg change, draw, last_move, now_eq, drawBetween,
    Nat.mod_eq_of_lt (by omega)]

/-- Settles O25. -/
theorem waitEndsWithinAPollPeriodOfTheChange : Obligations.WaitEndsWithinAPollPeriodOfTheChange := by
  constructor
  · intro s hi hc other given
    have hd := (hi.resting (wait_no_frame hc)).dataDir
    have since := hostSince_of_change hi (fun same => other (same.trans given))
    exact ⟨_, step_waitEnds hc hd given, by simp, by simp, by simpa using since⟩
  · intro s lag hc hd hlag other given
    have change : s.hostAt 1 ≠ s.hostAt 0 := fun same => other (same ▸ given)
    have polls : step (lateSample lag s) = .next (pollWait (tick (lateSample lag s))) := step_waitPolls hc hd other
    have ends : step (pollWait (tick (lateSample lag s))) =
        .next (arrive (goto (afterWait s.ctl) (tick (pollWait (tick (lateSample lag s)))))) :=
      step_waitEnds hc hd ((congrArg levelOf (tick_hostAt (lateSample lag s) 0)).trans given)
    refine ⟨_, _, _, (steps_succ_of_step polls).trans (steps_succ_of_step ends), by simp, ?_⟩
    rw [arrive_now, arrive_hostSince, goto_now, goto_hostSince, lateSample_change lag change, tick_now,
      lateSample_polls]
    omega

end Sys2Proof.Machine
end

section
/-! The start signal: the sample, the settle hold and the entry row of the receive (43_command_dispatcher R151, R152,
44_inquiry_handler R184, R185). -/

namespace Sys2Proof.Machine

variable {s t u : State}

theorem beginsReceive_rxEntry (hc : s.ctl.isReceive = true) (hd : s.dataDir = .input) : BeginsReceive (rxEntry s) :=
  ⟨hc, rfl, rfl, hd, holdsFor_rxClockLow { s with acc := 0, bitcnt := 0 }⟩

/-- The hold of a settle label has begun in `t` after the start signal's sample in `s`. -/
def settling (L : Ctl) (D : Nat) (s : State) : State := hold D (goto L (tick s))

/-- The receive has begun at `L` when the hold in progress in `t` has ended. -/
def settled (L : Ctl) (t : State) : State := rxEntry (goto L (tick (endHold t)))

/-- What the sample, the hold and the entry row do, at either of the two contexts' labels. -/
structure Settles (D : Nat) (s t u : State) : Prop where
  first : step s = .next t
  second : step t = .next u
  now : t.now = s.now
  holds : HoldsFor t D
  phase : t.phase = .none
  clk : t.clk = s.clk
  dataDir : t.dataDir = .input
  dataOut : t.dataOut = s.dataOut
  hostSince : t.hostSince = (tick s).hostSince
  end_now : u.now = t.tHoldEnd
  end_clk : u.clk = false
  end_dataOut : u.dataOut = s.dataOut
  begins : BeginsReceive u
  keeps : FrameKeeps s u
  hostAt : ∀ j, u.hostAt j = s.hostAt (2 + j)

theorem settles_of_steps {L R : Ctl} {D : Nat} (h : step s = .next (settling L D s))
    (h' : step (settling L D s) = .next (settled R (settling L D s))) (hR : R.isReceive = true)
    (hp : s.phase = .none) (hd : s.dataDir = .input) : Settles D s (settling L D s) (settled R (settling L D s)) where
  first := h
  second := h'
  now := by simp [settling]
  holds := holdsFor_hold D (goto L (tick s))
  phase := by simp [settling, hp]
  clk := by simp [settling]
  dataDir := by simp [settling, hd]
  dataOut := by simp [settling]
  hostSince := by simp [settling]
  end_now := by simp [settled, settling]
  end_clk := by simp [settled]
  end_dataOut := by simp [settled, settling]
  begins := beginsReceive_rxEntry hR (by simp [settling, hd])
  keeps := by constructor <;> simp [settled, settling]
  hostAt j := by simp [settled, settling, Nat.add_comm 2]

theorem settles_main (hc : s.ctl = .idle) (hp : s.phase = .none) (hd : s.dataDir = .input)
    (hw : levelOf (s.hostAt 0) = false) :
    Settles s.cfg.settleUs s (settling .settle s.cfg.settleUs s) (settled .rx (settling .settle s.cfg.settleUs s)) := by
  refine settles_of_steps ?_ ?_ rfl hp hd
  · rw [step_waitEnds (by simp [hc, Ctl.isWait]) hd (by rw [hc]; exact hw), hc]
    exact congrArg _ (arrive_settle rfl)
  · rw [step_settle (by simp [settling])]
    exact congrArg _ (arrive_receive rfl (by simp [settling, hp]))

theorem settles_sub (hc : s.ctl = .subIdle) (hp : s.phase = .none) (hd : s.dataDir = .input)
    (hw : levelOf (s.hostAt 0) = false) :
    Settles s.cfg.subSettleUs s (settling .subSettle s.cfg.subSettleUs s)
      (settled .subRx (settling .subSettle s.cfg.subSettleUs s)) := by
  refine settles_of_steps ?_ ?_ rfl hp hd
  · rw [step_waitEnds (by simp [hc, Ctl.isWait]) hd (by rw [hc]; exact hw), hc]
    exact congrArg _ (arrive_subSettle rfl)
  · rw [step_subSettle (by simp [settling])]
    exact congrArg _ (arrive_receive rfl (by simp [settling, hp]))

/-- Settles O27. -/
theorem settleHoldsBeforeReceiving : Obligations.SettleHoldsBeforeReceiving := by
  intro s hc hp hd hw
  have h := settles_main hc hp hd hw
  exact ⟨_, _, h.first, h.second, rfl, h.now, h.holds, h.phase, h.clk, h.dataDir, h.dataOut, rfl, h.end_now,
    h.begins, h.end_clk, h.end_dataOut⟩

/-- Settles O28; a hold of 0 ends when it begins. -/
theorem subSettleHoldsBeforeReceiving : Obligations.SubSettleHoldsBeforeReceiving := by
  intro s hc hp hd hw
  have h := settles_sub hc hp hd hw
  refine ⟨_, _, h.first, h.second, rfl, h.now, h.holds, fun hzero => ?_, h.phase, h.clk, h.dataDir, h.dataOut, rfl,
    h.end_now, h.begins, h.end_clk, h.end_dataOut, h.keeps.marker⟩
  rw [h.end_now]
  simp [settling, hzero, holdDuration_zero]

/-- The hold is measured from the sample, which comes at most a poll period after the signal. -/
theorem Settles.signal_to_fall {D : Nat} (h : Settles D s t u) (hi : EngineInv s) (hcfg : t.cfg = s.cfg)
    (high : wireData s = true) (low : levelOf (s.hostAt 0) = false) :
    t.hostSince + holdMin s.cfg D ≤ u.now ∧ u.now ≤ t.hostSince + s.cfg.pollMaxUs + holdMax s.cfg D := by
  obtain ⟨-, since, recent⟩ := hostSince_of_change hi (by rw [high, low]; decide)
  obtain ⟨hold_min, hold_max⟩ := h.holds
  rw [hcfg, h.now] at hold_min hold_max
  rw [h.end_now, h.hostSince]
  omega

/-- Settles O29. -/
theorem startSignalToFirstClockFall : Obligations.StartSignalToFirstClockFall := by
  intro s hi high low
  constructor <;> intro hc
  · obtain ⟨hp, -, hd, hk⟩ := hi.rest_registers (by rw [hc]; rfl) (by rw [hc]; rfl)
    have h := settles_main hc hp hd low
    exact ⟨_, _, h.first, h.second, h.clk.trans hk, h.end_clk, h.signal_to_fall hi rfl high low⟩
  · obtain ⟨hp, -, hd, hk⟩ := hi.rest_registers (by rw [hc]; rfl) (by rw [hc]; rfl)
    have h := settles_sub hc hp hd low
    exact ⟨_, _, h.first, h.second, h.clk.trans hk, h.end_clk, h.signal_to_fall hi rfl high low⟩

end Sys2Proof.Machine
end

section
/-! The Inquiry poll loop (44_inquiry_handler R180 to R182). -/

namespace Sys2Proof.Machine

variable {s t u : State}

theorem step_inqPoll_marker {b : Byte} (hc : s.ctl = .inqPoll) (hk : s.takeAt 0 = some b)
    (hm : isMarker s.cfg b = true) :
    step s = .next (arrive (sendAt .txKeypad rspKeypad { taken (tick s) with marker := b })) := by
  rw [step_inqPoll hc, inquiryPoll_marker (s := tick s) hk hm]

theorem step_inqPoll_key {b : Byte} (hc : s.ctl = .inqPoll) (hk : s.takeAt 0 = some b)
    (hm : isMarker s.cfg b = false) : step s = .next (arrive (sendAt .txAnswer b (taken (tick s)))) := by
  rw [step_inqPoll hc, inquiryPoll_key (s := tick s) hk hm]

theorem step_inqPoll_deadline (hc : s.ctl = .inqPoll) (hk : s.takeAt 0 = none)
    (hd : inquiryTimeoutUs ≤ s.now - s.tEntry) :
    step s = .next (arrive (sendAt .txAnswer rspNoKey (taken (tick s)))) := by
  rw [step_inqPoll hc, inquiryPoll_deadline (s := tick s) hk hd]

theorem step_inqPoll_polls (hc : s.ctl = .inqPoll) (hk : s.takeAt 0 = none)
    (hd : s.now - s.tEntry < inquiryTimeoutUs) : step s = .next (pollWait (taken (tick s))) := by
  rw [step_inqPoll hc, inquiryPoll_polls (s := tick s) hk hd]
  exact congrArg _ (arrive_plain (by simp [hc, Ctl.isSettle]) (by simp [hc, Ctl.isReceive]) (by simp [hc, Ctl.isSend]))

/-- Settles O30: the key source first, and the deadline only after `none`. -/
theorem inquiryPollTakesBeforeTheDeadline : Obligations.InquiryPollTakesBeforeTheDeadline := by
  intro s hc
  refine ⟨fun b hk hm => step_inqPoll_key hc hk hm, fun b hk hm => step_inqPoll_marker hc hk hm,
    fun hk hd => step_inqPoll_deadline hc hk hd, fun hk hd => ?_⟩
  obtain ⟨pos, le_max⟩ := pollDuration_bounds s.cfg (s.drawAt 0)
  exact ⟨_, pos, le_max, step_inqPoll_polls hc hk hd⟩

/-- A poll answers, or it is before the deadline and a poll period passes. -/
theorem step_inqPoll_answers_or_polls (hc : s.ctl = .inqPoll) :
    (∃ t, step s = .next t ∧ t.ctl.isSend = true) ∨
    (s.now - s.tEntry < inquiryTimeoutUs ∧ step s = .next (pollWait (taken (tick s)))) := by
  cases hk : s.takeAt 0 with
  | some b =>
    cases hm : isMarker s.cfg b with
    | true => exact .inl ⟨_, step_inqPoll_marker hc hk hm, by simp [Ctl.isSend]⟩
    | false => exact .inl ⟨_, step_inqPoll_key hc hk hm, by simp [Ctl.isSend]⟩
  | none =>
    obtain hd | hd := Nat.lt_or_ge (s.now - s.tEntry) inquiryTimeoutUs
    · exact .inr ⟨hd, step_inqPoll_polls hc hk hd⟩
    · exact .inl ⟨_, step_inqPoll_deadline hc hk hd, by simp [Ctl.isSend]⟩

/-- A poll that does not answer takes at least 1 µs of what is left of the window, which so bounds the polls. -/
theorem inquiryLoop_ends (m : Nat) (hc : s.ctl = .inqPoll) (left : s.tEntry + inquiryTimeoutUs ≤ s.now + m) :
    ∃ n t, n ≤ m + 1 ∧ steps n s = .next t ∧ t.ctl.isSend = true := by
  induction m generalizing s with
  | zero =>
    obtain ⟨t, h, ht⟩ | ⟨before, -⟩ := step_inqPoll_answers_or_polls hc
    · exact ⟨1, t, le_rfl, steps_succ_of_step h, ht⟩
    · omega
  | succ m ih =>
    obtain ⟨t, h, ht⟩ | ⟨-, h⟩ := step_inqPoll_answers_or_polls hc
    · exact ⟨1, t, by omega, steps_succ_of_step h, ht⟩
    · have pos := (pollDuration_bounds s.cfg (s.drawAt 0)).1
      have now_eq : (pollWait (taken (tick s))).now = s.now + pollDuration s.cfg (s.drawAt 0) := rfl
      obtain ⟨n, t, hn, hrun, ht⟩ := ih (s := pollWait (taken (tick s))) hc
        (by rw [pollWait_tEntry, taken_tEntry, tick_tEntry, now_eq]; omega)
      exact ⟨n + 1, t, by omega, (steps_succ_of_step h).trans hrun, ht⟩

theorem EngineInv.inquiryFits (h : EngineInv s) : InquiryFits s := by
  obtain ⟨-, -, -, -, -, -, -, -, hq, -⟩ := h
  exact hq

/-- Settles O53: the loop was entered in the past, so at most its whole window is left. -/
theorem inquiryLoopAlwaysEnds : Obligations.InquiryLoopAlwaysEnds := by
  intro s hi hc
  have entered := (hi.inquiryFits hc).1
  exact inquiryLoop_ends inquiryTimeoutUs hc (by omega)

/-- Settles O54: the poll that gives up is at or after the deadline, and the invariant has it less than a poll period
past it. -/
theorem noKeyAnswerRespectsTheDeadline : Obligations.NoKeyAnswerRespectsTheDeadline := by
  intro s t hi hc hk h leaves
  have ⟨_, late⟩ := hi.inquiryFits hc
  obtain hd | hd := Nat.lt_or_ge (s.now - s.tEntry) inquiryTimeoutUs
  · rw [step_inqPoll_polls hc hk hd] at h
    cases h
    exact absurd hc leaves
  · rw [step_inqPoll_deadline hc hk hd] at h
    cases h
    simp only [inquiryTimeoutUs] at hd late
    simp [rspNoKey]
    omega

end Sys2Proof.Machine
end

section
/-! Transactions: a command's reception, its dispatch and its answer (43_command_dispatcher R151 to R165,
44_inquiry_handler R182 to R192). -/

namespace Sys2Proof.Machine

variable {s t u : State} {a b c : Byte}

theorem FrameKeeps.takeAt (h : FrameKeeps s t) (k : Nat) : t.takeAt k = s.takeAt k := by
  simp only [State.takeAt, h.takes, h.takeCount]

/-! An answer and the way back. -/

theorem beginsSend_txEntry (hc : s.ctl.isSend = true) : BeginsSend (txEntry s) :=
  ⟨hc, rfl, rfl, rfl, rfl, holdsFor_txBeginSetup _⟩

/-- A rule that answers `a` at `L`, and the frame of the answer, read by a host that listens. -/
theorem runs_answer {L : Ctl} (h : step s = .next (arrive (sendAt L a u))) (hL : L.isSend = true)
    (hp : u.phase = .none) (hk : u.clk = s.clk) (listens : HostListens 0 u) :
    ∃ t, Runs 25 s t (msbFirst a) ∧ t.ctl = afterSend L ∧ t.phase = .none ∧ t.clk = true ∧ t.dataDir = .input ∧
      t.marker = u.marker ∧ t.takes = u.takes ∧ t.takeCount = u.takeCount := by
  rw [arrive_send (by simpa using hL) (by simpa using hp)] at h
  have enter : Runs 1 s (txEntry (sendAt L a u)) [] := runs_one_of_sameClock h (by simpa using hk)
  obtain ⟨t, l, hrun, ht, -, hl⟩ := send_frame (beginsSend_txEntry (s := sendAt L a u) hL)
  have bits : l = msbFirst a := hl fun k hk => by simpa using listens k hk
  obtain ⟨-, hmarker, -, htakes, htakeCount, -⟩ := ht.keeps
  exact ⟨t, bits ▸ enter.trans hrun, by simpa using ht.ctl, ht.phase, ht.clk, ht.dataDir, by simpa using hmarker,
    by simpa using htakes, by simpa using htakeCount⟩

/-- L_TOP releases Data and is quiescent a step later. -/
theorem runs_top (hc : s.ctl = .top) (hp : s.phase = .none) (hk : s.clk = true) :
    ∃ t, Runs 1 s t [] ∧ Quiescent t ∧ t.takes = s.takes ∧ t.takeCount = s.takeCount :=
  ⟨_, runs_one_of_input (step_top hc) rfl, ⟨rfl, hp, rfl, hk⟩, rfl, rfl⟩

/-- An answer other than KeypadAnnounce ends the command: the engine is quiescent again. -/
theorem runs_answer_to_quiescent (h : step s = .next (arrive (sendAt .txAnswer a u))) (hp : u.phase = .none)
    (hk : u.clk = s.clk) (listens : HostListens 0 u) :
    ∃ t, Runs 26 s t (msbFirst a) ∧ Quiescent t ∧ t.takes = u.takes ∧ t.takeCount = u.takeCount := by
  obtain ⟨t, hrun, hc, hp, hk, -, -, htakes, htakeCount⟩ := runs_answer h rfl hp hk listens
  obtain ⟨v, htop, hv, hvtakes, hvtakeCount⟩ := runs_top hc hp hk
  exact ⟨v, by simpa using hrun.trans htop, hv, hvtakes.trans htakes, hvtakeCount.trans htakeCount⟩

/-- A command that is dropped is back at the top, and quiescent a step later, with nothing sent and nothing taken. -/
theorem runs_drop_to_quiescent (h : step s = .next (goto .top s)) (hp : s.phase = .none) (hk : s.clk = true) :
    ∃ t, Runs 2 s t [] ∧ Quiescent t ∧ t.takes = s.takes ∧ t.takeCount = s.takeCount := by
  have drop : Runs 1 s (goto .top s) [] := runs_one_of_sameClock h rfl
  obtain ⟨t, htop, ht, htakes, htakeCount⟩ := runs_top (s := goto .top s) rfl hp hk
  exact ⟨t, drop.trans htop, ht, htakes, htakeCount⟩

/-- Settles O55: the poll's own answer, and the frame it enters. -/
theorem inquiryAnswersTheKeyItTakes : Obligations.InquiryAnswersTheKeyItTakes := by
  intro s b hc hp hk listens
  have after_move : HostListens 0 (taken (tick s)) := fun k hk => by
    simpa [Nat.add_comm, Nat.add_left_comm] using listens k hk
  constructor <;> intro hm
  · obtain ⟨t, ⟨hrun, hreads⟩, ht, -, htakeCount⟩ :=
      runs_answer_to_quiescent (step_inqPoll_key hc hk hm) hp rfl after_move
    exact ⟨t, hrun, ht, hreads, htakeCount⟩
  · obtain ⟨t, ⟨hrun, hreads⟩, ht, htp, htk, htd, hmarker, -, htakeCount⟩ :=
      runs_answer (u := { taken (tick s) with marker := b }) (step_inqPoll_marker hc hk hm) rfl hp rfl after_move
    exact ⟨t, hrun, ht, htp, htd, htk, hmarker, hreads, htakeCount⟩

/-! The reception of a command. -/

/-- `t` is at the dispatch of `c`, which the host has sent from the start-signal wait of `s`. -/
structure Delivered (c : Byte) (s t : State) : Prop where
  ctl : t.ctl = dispatchLabel (contextOf s.ctl)
  op : t.op = c
  phase : t.phase = .none
  dataDir : t.dataDir = .input
  clk : t.clk = true
  keeps : FrameKeeps s t
  hostAt : ∀ k, t.hostAt k = s.hostAt (receptionSteps + k)

theorem Settles.runs {D : Nat} (h : Settles D s t u) : Runs 2 s u [] :=
  (runs_one_of_input h.first h.dataDir).trans (runs_one_of_clock_low h.second h.end_clk)

theorem dispatchLabel_no_frame (ctx : Context) : (dispatchLabel ctx).isSettle = false ∧
    (dispatchLabel ctx).isReceive = false ∧ (dispatchLabel ctx).isSend = false := by
  cases ctx <;> exact ⟨rfl, rfl, rfl⟩

/-- The ready signal's sample reaches the dispatch label (43_command_dispatcher R154, 44_inquiry_handler R187). -/
theorem step_ready {ctx : Context} (hwait : s.ctl.isWait = true) (haw : awaited s.ctl = true)
    (hafter : afterWait s.ctl = dispatchLabel ctx) (hd : s.dataDir = .input) (ready : levelOf (s.hostAt 0) = true) :
    step s = .next (goto (dispatchLabel ctx) (tick s)) := by
  rw [step_waitEnds hwait hd (haw ▸ ready), hafter]
  obtain ⟨hl, hr, hs⟩ := dispatchLabel_no_frame ctx
  exact congrArg _ (arrive_plain hl hr hs)

/-- The start signal, the eight bits and the ready signal, where the settle label's receive leads to the ready wait of
the same context. -/
theorem Settles.delivers {D : Nat} (h : Settles D s t u) (sends : HostSends c s)
    (hwait : (afterReceive u.ctl).isWait = true) (haw : awaited (afterReceive u.ctl) = true)
    (hafter : afterWait (afterReceive u.ctl) = dispatchLabel (contextOf s.ctl)) :
    ∃ v, Runs receptionSteps s v [] ∧ Delivered c s v := by
  obtain ⟨-, presents, ready⟩ := sends
  obtain ⟨w, hframe, hw⟩ := receive_frame h.begins
  have op : w.op = c := byte_ext_msbFirst fun k hk => by
    rw [hw.bits k hk, h.hostAt, ← presents k hk]
    congr 2
  have ready_step := step_ready (s := w) (hw.ctl ▸ hwait) (hw.ctl ▸ haw) (by rw [hw.ctl, hafter]) hw.dataDir
    (by rw [hw.hostAt, h.hostAt]; exact ready)
  refine ⟨_, (h.runs.trans hframe).trans (runs_one_of_sameClock ready_step rfl), ?_⟩
  exact {
    ctl := rfl
    op := op
    phase := hw.phase
    dataDir := hw.dataDir
    clk := hw.clk
    keeps := (h.keeps.trans hw.keeps).trans ⟨rfl, rfl, rfl, rfl, rfl, rfl⟩
    hostAt := fun k => by
      rw [goto_hostAt, tick_hostAt, hw.hostAt, h.hostAt]
      congr 1
      simp only [receptionSteps]
      omega }

/-- From either wait for the start signal, a host that does its duties delivers its command in the same context. -/
theorem reception (hc : s.ctl = .idle ∨ s.ctl = .subIdle) (hp : s.phase = .none) (hd : s.dataDir = .input)
    (sends : HostSends c s) : ∃ t, Runs receptionSteps s t [] ∧ Delivered c s t := by
  rcases hc with hc | hc
  · exact (settles_main hc hp hd sends.1).delivers sends rfl rfl (by rw [hc]; rfl)
  · exact (settles_sub hc hp hd sends.1).delivers sends rfl rfl (by rw [hc]; rfl)

theorem Delivered.listens (h : Delivered c s t) (listens : HostListens receptionSteps s) : HostListens 0 t :=
  fun k hk => by
    rw [h.hostAt, ← listens k hk]
    congr 1
    omega

/-- Settles O56. -/
theorem hostDeliversItsCommand : Obligations.HostDeliversItsCommand := by
  rintro s c ⟨hc, hp, hd, -⟩ sends
  obtain ⟨t, ⟨hrun, hreads⟩, ht⟩ := reception (.inl hc) hp hd sends
  exact ⟨t, hrun, by rw [ht.ctl, hc]; rfl, ht.op, ht.phase, ht.dataDir, ht.clk, hreads, ht.keeps.takes,
    ht.keeps.takeCount, ht.hostAt⟩

/-! Whole transactions. -/

theorem step_subInstant (hc : s.ctl = .subDispatch) (ho : s.op = 0x14) :
    step s = .next (arrive (sendAt .txAnswer (translateMarker s.cfg s.marker) s)) := by
  rw [step_subDispatch hc, ho, decodeUnit, decodeSub_instant]
  rfl

/-- The row of the transaction table that `c` and the key source choose: the answer, and what it takes. -/
theorem step_main_answer (hc : s.ctl = .dispatch) (row : (s.op = 0x14 ∧ s.takeAt 0 = some a) ∨
    (s.op = 0x14 ∧ s.takeAt 0 = none ∧ a = 0x7B) ∨ (s.op = 0x16 ∧ a = 0x05) ∨ (s.op = 0x36 ∧ a = 0x7D)) :
    step s = .next (arrive (sendAt .txAnswer a (if s.op = 0x14 then taken s else s))) := by
  rcases row with ⟨ho, hk⟩ | ⟨ho, hk, rfl⟩ | ⟨ho, rfl⟩ | ⟨ho, rfl⟩
  · rw [step_instant hc ho, hk, if_pos ho]
    rfl
  · rw [step_instant hc ho, hk, if_pos ho]
    rfl
  · rw [step_modelNumber hc ho, if_neg (by simp [ho])]
    rfl
  · rw [step_test hc ho, if_neg (by simp [ho])]
    rfl

/-- Settles O57: the reception, the dispatch of its row, and the answer's frame. -/
theorem mainTransactionAnswers : Obligations.MainTransactionAnswers := by
  rintro s c a ⟨hc, hp, hd, -⟩ sends listens row
  obtain ⟨t, hrun, ht⟩ := reception (.inl hc) hp hd sends
  have at_dispatch : t.ctl = .dispatch := by rw [ht.ctl, hc]; rfl
  have answer := step_main_answer (a := a) at_dispatch (by rw [ht.op, ht.keeps.takeAt]; exact row)
  have listens_from_t := ht.listens listens
  rw [ht.op] at answer
  by_cases h14 : c = 0x14
  · rw [if_pos h14] at answer
    obtain ⟨v, hanswer, hv, -, htakeCount⟩ := runs_answer_to_quiescent answer ht.phase rfl listens_from_t
    obtain ⟨hsteps, hreads⟩ := hrun.trans hanswer
    exact ⟨v, hsteps, hv, hreads, by rw [htakeCount, if_pos h14, taken_takeCount, ht.keeps.takeCount]⟩
  · rw [if_neg h14] at answer
    obtain ⟨v, hanswer, hv, -, htakeCount⟩ := runs_answer_to_quiescent answer ht.phase rfl listens_from_t
    obtain ⟨hsteps, hreads⟩ := hrun.trans hanswer
    exact ⟨v, hsteps, hv, hreads, by rw [htakeCount, if_neg h14, ht.keeps.takeCount, Nat.add_zero]⟩

/-- Settles O58: the reception, and the way back to the top. -/
theorem unknownTransactionIsSilent : Obligations.UnknownTransactionIsSilent := by
  rintro s c ⟨hc, hp, hd, -⟩ sends h₁ h₂ h₃ h₄
  obtain ⟨t, hrun, ht⟩ := reception (.inl hc) hp hd sends
  have at_dispatch : t.ctl = .dispatch := by rw [ht.ctl, hc]; rfl
  have drop := step_unknown at_dispatch (ht.op ▸ h₁) (ht.op ▸ h₂) (ht.op ▸ h₃) (ht.op ▸ h₄)
  obtain ⟨v, hback, hv, htakes, htakeCount⟩ := runs_drop_to_quiescent drop ht.phase ht.clk
  obtain ⟨hsteps, hreads⟩ := hrun.trans hback
  exact ⟨v, hsteps, hv, hreads, htakes.trans ht.keeps.takes, htakeCount.trans ht.keeps.takeCount⟩

/-- Settles O59: the same in the sub context, where the marker and the parameters are those of the wait. -/
theorem subExchangeAnswersOnlyInstant : Obligations.SubExchangeAnswersOnlyInstant := by
  intro s c hc hp hd sends
  obtain ⟨t, hrun, ht⟩ := reception (.inr hc) hp hd sends
  have at_dispatch : t.ctl = .subDispatch := by rw [ht.ctl, hc]; rfl
  constructor
  · intro h14 listens
    have answer := step_subInstant at_dispatch (ht.op.trans h14)
    rw [ht.keeps.cfg, ht.keeps.marker] at answer
    obtain ⟨v, hanswer, hv, htakes, htakeCount⟩ :=
      runs_answer_to_quiescent answer ht.phase rfl (ht.listens listens)
    obtain ⟨hsteps, hreads⟩ := hrun.trans hanswer
    exact ⟨v, hsteps, hv, hreads, htakes.trans ht.keeps.takes, htakeCount.trans ht.keeps.takeCount⟩
  · intro h14
    have drop := step_subDrop at_dispatch (ht.op ▸ h14)
    obtain ⟨v, hback, hv, htakes, htakeCount⟩ := runs_drop_to_quiescent drop ht.phase ht.clk
    obtain ⟨hsteps, hreads⟩ := hrun.trans hback
    exact ⟨v, hsteps, hv, hreads, htakes.trans ht.keeps.takes, htakeCount.trans ht.keeps.takeCount⟩

end Sys2Proof.Machine
end

section
/-! The Key Translator's table as a code, and holds as intervals (42_key_translator R141, R143, 40_line_interface
R105). -/

namespace Sys2Proof.Machine

variable {s t : State} {P : Params} {d d' : Dir} {e e' : Edge}

/-! `translate` on the markers. -/

theorem translateMarker_getLsbD_low (P : Params) (d : Dir) (e : Edge) {k : Nat} (hk : k < 7) :
    (translateMarker P (P.arrowMarker d e)).getLsbD k = (P.arrowCode d).getLsbD k := by
  cases e with
  | press => rw [translateMarker_press]
  | release =>
    have bit7_only : (0x80 : Byte).getLsbD k = false := by interval_cases k <;> rfl
    rw [translateMarker_release, BitVec.getLsbD_or, bit7_only, Bool.or_false]

theorem translateMarker_bit7 (P : Params) (d : Dir) (e : Edge) :
    (translateMarker P (P.arrowMarker d e)).getLsbD 7 = true ↔ e = .release := by
  cases e with
  | press => simp [translateMarker_press, arrowCode_bit7, -BitVec.getLsbD_eq_getElem]
  | release => simp [translateMarker_release, BitVec.getLsbD_or, -BitVec.getLsbD_eq_getElem]

/-- Bit 7 gives the edge back, and the other bits the direction's code, whose own bit 7 is 0. -/
theorem translateMarker_inj
    (h : translateMarker P (P.arrowMarker d e) = translateMarker P (P.arrowMarker d' e')) : d = d' ∧ e = e' := by
  have same_edge : e = .release ↔ e' = .release := by
    rw [← translateMarker_bit7 P d e, h, translateMarker_bit7 P d' e']
  have same_code : P.arrowCode d = P.arrowCode d' := BitVec.eq_of_getLsbD_eq fun k hk => by
    obtain hk7 | rfl : k < 7 ∨ k = 7 := by omega
    · rw [← translateMarker_getLsbD_low P d e hk7, h, translateMarker_getLsbD_low P d' e' hk7]
    · rw [arrowCode_bit7, arrowCode_bit7]
  refine ⟨arrowCode_injective P same_code, ?_⟩
  cases e <;> cases e' <;> simp_all

/-- Settles O15. -/
theorem translateGivesTheDirectionCode : Obligations.TranslateGivesTheDirectionCode := fun P d e =>
  ⟨translateMarker_bit7 P d e, fun _ => translateMarker_getLsbD_low P d e, fun _ _ => translateMarker_inj⟩

/-- The list of markers is the parameter table written row by row. -/
theorem markerSet_eq (P : Params) : markerSet P = P.markers.toList.flatMap PerEdge.toList := rfl

/-- Settles O17: the parameters' own constraint says that the markers are distinct. -/
theorem markersAreEightDistinctValues : Obligations.MarkersAreEightDistinctValues := fun P =>
  ⟨rfl, markerSet_eq P ▸ P.markers_distinct, fun _ => isMarker_iff⟩

/-! The duration of a hold. -/

/-- With a tolerance of 0 the nominal duration is the only one. -/
theorem holdDuration_exact (h : P.tolNum = 0) (D raw : Nat) : holdDuration P D raw = D := by
  obtain ⟨hmin, hmax⟩ := hold_exact h D
  have := holdDuration_bounds P D raw
  omega

/-- Settles O20: the drawn duration lies in the rounded interval, whose ends are those of the exact one, and every
duration in it is drawn by its distance from the lower end. -/
theorem holdLastsWithinItsTolerance : Obligations.HoldLastsWithinItsTolerance := by
  intro s D
  constructor
  · obtain ⟨hmin, hmax⟩ := holdDuration_bounds s.cfg D (s.drawAt 0)
    exact ⟨_, rfl, (holdMin_le_iff s.cfg).1 hmin, (le_holdMax_iff s.cfg).1 hmax,
      fun htol => holdDuration_exact htol D _⟩
  · intro d hmin hmax
    have drawn : holdDuration s.cfg D (d - holdMin s.cfg D) = d :=
      holdDuration_of_sub s.cfg ((holdMin_le_iff s.cfg).2 hmin) ((le_holdMax_iff s.cfg).2 hmax)
    exact ⟨d - holdMin s.cfg D, congrArg (s.now + ·) drawn⟩

/-! What the host sees (10_state R36). -/

theorem dataSeenByHost_of_input (hd : s.dataDir = .input) : dataSeenByHost s = wireData s := by
  simp only [dataSeenByHost, hd]

/-- Settles O19. -/
theorem hostSeesTheDataWire : Obligations.HostSeesTheDataWire := fun _ =>
  ⟨dataSeenByHost_of_listening,
    fun _ hd hh => (dataSeenByHost_of_input hd).trans (wireData_of_hostDrives hh),
    fun hd hh => (dataSeenByHost_of_input hd).trans (wireData_of_hostFree hh)⟩

end Sys2Proof.Machine
end

section
/-! The rows of a frame with the parameter that bounds each hold (41_bit_transceiver R121, R124, R130, R131). -/

namespace Sys2Proof.Machine

/-- Settles O31, row by row. -/
theorem receiveRowsHoldTheirIntervals : Obligations.ReceiveRowsHoldTheirIntervals := by
  intro s hc
  refine ⟨fun hp => ?_, fun hp hd => ?_, fun hp hb => ?_, fun hp hb => step_rxEnd hc hp hb⟩
  · obtain ⟨hmin, hmax⟩ := holdDuration_bounds s.cfg s.cfg.rxSampleUs (s.drawAt 0)
    exact ⟨_, hmin, hmax, step_rxLow hc hp⟩
  · obtain ⟨hmin, hmax⟩ := holdDuration_bounds s.cfg s.cfg.rxPostUs (s.drawAt 0)
    exact ⟨_, hmin, hmax, step_rxHigh hc hp hd⟩
  · obtain ⟨hmin, hmax⟩ := holdDuration_bounds s.cfg s.cfg.rxLowUs (s.drawAt 0)
    exact ⟨_, hmin, hmax, step_rxPost hc hp hb⟩

/-- Settles O32, row by row. -/
theorem sendRowsHoldTheirIntervals : Obligations.SendRowsHoldTheirIntervals := by
  intro s hc
  refine ⟨fun hp => ?_, fun hp => ?_, fun hp hb hd => ?_, fun hp hb => step_txEnd hc hp hb⟩
  · obtain ⟨hmin, hmax⟩ := holdDuration_bounds s.cfg s.cfg.txLowUs (s.drawAt 0)
    exact ⟨_, hmin, hmax, step_txSetup hc hp⟩
  · obtain ⟨hmin, hmax⟩ := holdDuration_bounds s.cfg s.cfg.txHighUs (s.drawAt 0)
    exact ⟨_, hmin, hmax, step_txLow hc hp⟩
  · obtain ⟨hmin, hmax⟩ := holdDuration_bounds s.cfg s.cfg.txSetupUs (s.drawAt 0)
    exact ⟨_, hmin, hmax, step_txHigh hc hp hb hd⟩

/-- Settles O46: a phase of the other direction names no row. -/
theorem misplacedPhaseFaults : Obligations.MisplacedPhaseFaults := by
  intro s
  constructor <;> intro hc hp
  · rw [step_receive hc]
    cases h : s.phase with
    | txSetup | txLow | txHigh => simp only [stepReceive, h]; rfl
    | none | rxLow | rxHigh | rxPost => simp [h, Phase.isSend] at hp
  · rw [step_send hc]
    cases h : s.phase with
    | rxLow | rxHigh | rxPost => simp only [stepSend, h]; rfl
    | none | txSetup | txLow | txHigh => simp [h, Phase.isReceive] at hp

end Sys2Proof.Machine
end

section
/-! The commands at their dispatch labels (43_command_dispatcher R155, 44_inquiry_handler R188). -/

namespace Sys2Proof.Machine

variable {s : State} {u : Byte}

theorem step_dispatch_eq_exec {i : Instr} (hc : s.ctl = .dispatch) (hd : decodeMain s.op = i) :
    step s = andThen (exec i s) arrive := by
  rw [step_dispatch hc, decodeUnit, hd]

theorem step_subDispatch_eq_exec {i : Instr} (hc : s.ctl = .subDispatch) (hd : decodeSub s.op = i) :
    step s = andThen (exec i s) arrive := by
  rw [step_subDispatch hc, decodeUnit, hd]

/-- Settles O4. -/
theorem stepRunsTheDispatchedCommand : Obligations.StepRunsTheDispatchedCommand :=
  fun _ => ⟨step_dispatch, step_subDispatch⟩

/-- Settles O5: the entry rows are `rxEntry` and `txEntry`, whose holds are drawn within their tolerances. -/
theorem arrivingBeginsTheHoldOrTheFrame : Obligations.ArrivingBeginsTheHoldOrTheFrame := by
  intro s
  refine ⟨arrive_settle, arrive_subSettle, fun hc hp => ?_, fun hc hp => ?_, fun hl hf => ?_⟩
  · obtain ⟨hmin, hmax⟩ := holdDuration_bounds s.cfg s.cfg.rxLowUs (s.drawAt 0)
    exact ⟨_, hmin, hmax, arrive_receive hc hp⟩
  · obtain ⟨hmin, hmax⟩ := holdDuration_bounds s.cfg s.cfg.txSetupUs (s.drawAt 0)
    exact ⟨_, hmin, hmax, arrive_send hc hp⟩
  · rcases arrive_cases s with ⟨hc, -⟩ | ⟨hc, -⟩ | ⟨hc, hp, -⟩ | ⟨hc, hp, -⟩ | ⟨-, -, h⟩
    · simp [hc, Ctl.isSettle] at hl
    · simp [hc, Ctl.isSettle] at hl
    · exact absurd hp (hf (.inl hc))
    · exact absurd hp (hf (.inr hc))
    · exact h

theorem dispatchLabel_eq (ctx : Context) : dispatchLabel ctx = if ctx = .main then .dispatch else .subDispatch := by
  cases ctx <;> rfl

/-- Settles O6: the loaded unit stands at the dispatch label of the context the engine is in. -/
theorem loadedWordIsTheNextCommand : Obligations.LoadedWordIsTheNextCommand := by
  intro s nbits w
  have loaded : s.withFetchWord nbits w =
      { s with op := BitVec.ofNat 8 w, ctl := dispatchLabel (contextOf s.ctl) } := rfl
  refine ⟨by rw [loaded, dispatchLabel_eq], ?_⟩
  cases hctx : contextOf s.ctl with
  | main => exact step_dispatch (s := s.withFetchWord nbits w) (by rw [loaded, hctx]; rfl)
  | sub => exact step_subDispatch (s := s.withFetchWord nbits w) (by rw [loaded, hctx]; rfl)

/-- Settles O7. -/
theorem modelNumberAnswersTheModelIdentifier : Obligations.ModelNumberAnswersTheModelIdentifier := fun _ =>
  ⟨rfl, fun hc ho => step_dispatch_eq_exec hc (ho ▸ decodeMain_modelNumber)⟩

/-- Settles O8. -/
theorem testAnswersTheAcknowledgement : Obligations.TestAnswersTheAcknowledgement := fun _ =>
  ⟨rfl, fun hc ho => step_dispatch_eq_exec hc (ho ▸ decodeMain_test)⟩

theorem exec_instant (s : State) :
    exec .instant s = .next (sendAt .txAnswer (instantAnswer (s.takeAt 0)) (taken s)) := rfl

/-- Settles O9: `taken` moves the key source on by one answer. -/
theorem instantAnswersWhatItTakes : Obligations.InstantAnswersWhatItTakes := by
  intro s
  refine ⟨fun b hk => ?_, fun hk => ?_, fun t h k => ?_,
    fun hc ho => step_dispatch_eq_exec hc (ho ▸ decodeMain_instant)⟩
  · rw [exec_instant, hk]
    rfl
  · rw [exec_instant, hk]
    rfl
  · rw [exec_instant] at h
    cases h
    rw [sendAt_takeAt, taken_takeAt]

/-- Settles O11. -/
theorem inquiryEntersItsPollLoop : Obligations.InquiryEntersItsPollLoop := fun _ =>
  ⟨rfl, fun hc ho => step_dispatch_eq_exec hc (ho ▸ decodeMain_inquiry)⟩

theorem exec_subInstant (s : State) :
    exec .subInstant s = .next (sendAt .txAnswer (translateMarker s.cfg s.marker) s) := rfl

/-- Settles O12: the translation of each marker, and the invariant's marker at a label of the sub context. -/
theorem subInstantAnswersTheArrowCode : Obligations.SubInstantAnswersTheArrowCode := by
  intro s
  refine ⟨exec_subInstant s, fun d hm => ?_, fun d hm => ?_, fun d e hm => ?_, fun hi hc => ?_,
    fun hc ho => step_subDispatch_eq_exec hc (ho ▸ decodeSub_instant)⟩
  · have code : translateMarker s.cfg s.marker = s.cfg.arrowCode d := hm ▸ translateMarker_press s.cfg d
    rw [exec_subInstant, code]
    rfl
  · have code : translateMarker s.cfg s.marker = s.cfg.arrowCode d ||| 0x80 := hm ▸ translateMarker_release s.cfg d
    rw [exec_subInstant, code]
    rfl
  · rw [hm, translateMarker_bit7]
  · exact hi.markerFits (by rw [hc]; rfl)

/-- Settles O13: any other opcode decodes to `subDrop`, the jump to L_TOP; the rest is the way back from there. -/
theorem subDropReturnsToTheTop : Obligations.SubDropReturnsToTheTop := by
  intro s u
  refine ⟨rfl, ?_⟩
  rintro h14 hc rfl
  have drop : step s = .next (goto .top s) := step_subDrop hc h14
  exact ⟨drop, silentReturn_of_step_goto_top drop⟩

/-- Settles O22. -/
theorem topReleasesData : Obligations.TopReleasesData := fun _ => step_top

end Sys2Proof.Machine
end

section
/-! What every step keeps, and where each register may change (10_state R22 to R33). -/

namespace Sys2Proof.Machine

variable {s t u : State}

/-- Settles O21: a step adds a poll period, goes to the end of a hold, or takes no time. -/
theorem timeNeverGoesBack : Obligations.TimeNeverGoesBack := by
  intro s t h
  cases step_next h with
  | waitPolls _ _ _ ht | inqPolls _ _ _ ht =>
    subst ht
    exact ⟨Nat.le_add_right _ _, rfl⟩
  | settle _ ht | subSettle _ ht | rxRise _ _ ht | rxSample _ _ _ ht | rxNext _ _ _ ht | rxEnd _ _ _ ht
  | txFall _ _ ht | txRise _ _ ht | txNext _ _ _ _ ht | txEnd _ _ _ ht =>
    have end_of_hold : t.now = max s.now s.tHoldEnd := by simp [ht]
    exact ⟨end_of_hold ▸ le_max_left _ _, by simp [ht]⟩
  | _ =>
    rename_i ht
    simp [ht]

/-- Settles O47: each rule's target label is one of its edges. -/
theorem controlFollowsTheLabelGraph : Obligations.ControlFollowsTheLabelGraph := by
  intro s t h
  cases step_next h with
  | waitEnds hc _ _ ht =>
    subst ht
    rcases isWait_cases hc with hc | hc | hc | hc <;> simp [hc, afterWait, labelGraph]
  | rxEnd hc _ _ ht =>
    subst ht
    rcases isReceive_cases hc with hc | hc <;> simp [hc, afterReceive, labelGraph]
  | txEnd hc _ _ ht =>
    subst ht
    rcases isSend_cases hc with hc | hc <;> simp [hc, afterSend, labelGraph]
  | waitPolls _ _ _ ht | rxEnter _ _ ht | rxRise _ _ ht | rxSample _ _ _ ht | rxNext _ _ _ ht | txEnter _ _ ht
  | txFall _ _ ht | txRise _ _ ht | txNext _ _ _ _ ht | inqPolls _ _ _ ht =>
    subst ht
    simp
  | inquiry hc _ ht | instant hc _ ht | modelNumber hc _ ht | test hc _ ht | unknown hc _ ht | subInstant hc _ ht
  | subDrop hc _ ht | top hc ht | settle hc ht | subSettle hc ht | inqMarker _ hc _ _ ht | inqKey _ hc _ _ ht
  | inqDeadline hc _ _ ht =>
    subst ht
    simp [hc, labelGraph]

/-! The registers of the commands: `tx`, `marker` and `t_entry`, which arriving leaves alone. -/

theorem step_marker_changes (h : step s = .next t) (hne : t.marker ≠ s.marker) :
    s.ctl = .inqPoll ∧ t.ctl = .txKeypad := by
  cases step_next h with
  | inqMarker b hc _ _ ht => exact ⟨hc, by simp [ht]⟩
  | _ =>
    rename_i ht
    simp [ht] at hne

theorem step_tEntry_changes (h : step s = .next t) (hne : t.tEntry ≠ s.tEntry) :
    s.ctl = .dispatch ∧ s.op = 0x10 ∧ t.tEntry = s.now := by
  cases step_next h with
  | inquiry hc ho ht => exact ⟨hc, ho, by rw [ht]⟩
  | _ =>
    rename_i ht
    simp [ht] at hne

theorem step_tx_changes (h : step s = .next t) (hne : t.tx ≠ s.tx) :
    t.ctl.isSend = true ∧ (s.ctl = .dispatch ∨ s.ctl = .inqPoll ∨ s.ctl = .subDispatch) := by
  cases step_next h with
  | instant hc _ ht | modelNumber hc _ ht | test hc _ ht | subInstant hc _ ht | inqMarker _ hc _ _ ht
  | inqKey _ hc _ _ ht | inqDeadline hc _ _ ht => exact ⟨by simp [ht, Ctl.isSend], by simp [hc]⟩
  | _ =>
    rename_i ht
    simp [ht] at hne

/-! The registers of the lines and of the transceiver: what a step does to them outside a frame and inside. -/

/-- `u` has the transceiver's and the lines' registers of `s`, but for the release of Data at L_TOP. -/
structure SameTransceiver (s u : State) : Prop where
  phase : u.phase = s.phase
  bitcnt : u.bitcnt = s.bitcnt
  acc : u.acc = s.acc
  op : u.op = s.op
  tHoldEnd : u.tHoldEnd = s.tHoldEnd
  clk : u.clk = s.clk
  dataDir : s.ctl ≠ .top → u.dataDir = s.dataDir
  dataOut : u.dataOut = s.dataOut

/-- A step outside a frame changes these registers only by arriving at a label; a row inside one stays at its label,
and the last row leaves it. -/
inductive StepShape (s t : State) : Prop
  | plain (ht : SameTransceiver s t)
  | arrives (u : State) (hu : SameTransceiver s u) (ht : t = arrive u)
  | receiveRow (hc : s.ctl.isReceive = true) (hL : t.ctl = s.ctl) (op : t.op = s.op) (dataDir : t.dataDir = s.dataDir)
      (dataOut : t.dataOut = s.dataOut)
  | receiveEnd (hc : s.ctl.isReceive = true) (hp : s.phase = .rxPost) (hb : s.bitcnt = 8) (op : t.op = s.acc)
      (acc : t.acc = s.acc) (tHoldEnd : t.tHoldEnd = s.tHoldEnd) (clk : t.clk = s.clk)
      (dataDir : t.dataDir = s.dataDir) (dataOut : t.dataOut = s.dataOut)
  | sendRow (hc : s.ctl.isSend = true) (hL : t.ctl = s.ctl) (acc : t.acc = s.acc) (op : t.op = s.op)
  | sendEnd (hc : s.ctl.isSend = true) (acc : t.acc = s.acc) (op : t.op = s.op) (tHoldEnd : t.tHoldEnd = s.tHoldEnd)
      (clk : t.clk = s.clk) (dataOut : t.dataOut = s.dataOut)

theorem step_shape (h : step s = .next t) : StepShape s t := by
  cases step_next h with
  | rxEnter hc _ ht | rxRise hc _ ht | rxSample hc _ _ ht | rxNext hc _ _ ht =>
    refine .receiveRow hc ?_ ?_ ?_ ?_ <;> simp [ht]
  | txEnter hc _ ht | txFall hc _ ht | txRise hc _ ht | txNext hc _ _ _ ht =>
    refine .sendRow hc ?_ ?_ ?_ <;> simp [ht]
  | rxEnd hc hp hb ht => refine .receiveEnd hc hp hb ?_ ?_ ?_ ?_ ?_ ?_ <;> simp [ht]
  | txEnd hc _ _ ht => refine .sendEnd hc ?_ ?_ ?_ ?_ ?_ <;> simp [ht]
  | instant _ _ ht | modelNumber _ _ ht | test _ _ ht | subInstant _ _ ht | waitEnds _ _ _ ht | settle _ ht
  | subSettle _ ht | inqMarker _ _ _ _ ht | inqKey _ _ _ _ ht | inqDeadline _ _ _ ht =>
    exact .arrives _ (by constructor <;> simp) ht
  | inquiry _ _ ht | unknown _ _ ht | subDrop _ _ ht | waitPolls _ _ _ ht | inqPolls _ _ _ ht =>
    exact .plain (by constructor <;> simp [ht])
  | top hc ht => exact .plain (by constructor <;> simp [ht, hc])

/-- What arriving writes, by the class of the label. -/
theorem arrive_changes (u : State) :
    ((arrive u).phase ≠ u.phase ∨ (arrive u).bitcnt ≠ u.bitcnt → u.ctl.isReceive = true ∨ u.ctl.isSend = true) ∧
    ((arrive u).acc ≠ u.acc ∨ (arrive u).clk ≠ u.clk → u.ctl.isReceive = true) ∧
    ((arrive u).tHoldEnd ≠ u.tHoldEnd →
      u.ctl.isReceive = true ∨ u.ctl.isSend = true ∨ u.ctl.isSettle = true) ∧
    ((arrive u).dataDir ≠ u.dataDir ∨ (arrive u).dataOut ≠ u.dataOut → u.ctl.isSend = true) := by
  rcases arrive_cases u with ⟨hc, h⟩ | ⟨hc, h⟩ | ⟨hc, -, h⟩ | ⟨hc, -, h⟩ | ⟨-, -, h⟩
  · simp [h, hc, Ctl.isSettle]
  · simp [h, hc, Ctl.isSettle]
  · simp [h, hc]
  · simp [h, hc]
  · simp [h]

theorem step_phase_or_bitcnt_changes (h : step s = .next t) (hne : t.phase ≠ s.phase ∨ t.bitcnt ≠ s.bitcnt) :
    s.ctl.isReceive = true ∨ s.ctl.isSend = true ∨ t.ctl.isReceive = true ∨ t.ctl.isSend = true := by
  cases step_shape h with
  | plain ht => simp [ht.phase, ht.bitcnt] at hne
  | arrives u hu ht =>
    subst ht
    rw [← hu.phase, ← hu.bitcnt] at hne
    exact .inr (.inr (by simpa using (arrive_changes u).1 hne))
  | receiveRow hc | receiveEnd hc => exact .inl hc
  | sendRow hc | sendEnd hc => exact .inr (.inl hc)

theorem step_acc_changes (h : step s = .next t) (hne : t.acc ≠ s.acc) : t.ctl.isReceive = true := by
  cases step_shape h with
  | plain ht => exact absurd ht.acc hne
  | arrives u hu ht =>
    subst ht
    rw [← hu.acc] at hne
    simpa using (arrive_changes u).2.1 (.inl hne)
  | receiveRow hc hL => rwa [hL]
  | receiveEnd _ _ _ _ acc | sendRow _ _ acc | sendEnd _ acc => exact absurd acc hne

theorem step_op_changes (h : step s = .next t) (hne : t.op ≠ s.op) :
    s.ctl.isReceive = true ∧ s.phase = .rxPost ∧ s.bitcnt = 8 ∧ t.op = s.acc := by
  cases step_shape h with
  | plain ht => exact absurd ht.op hne
  | arrives u hu ht => exact absurd (by rw [ht, arrive_op, hu.op]) hne
  | receiveEnd hc hp hb op => exact ⟨hc, hp, hb, op⟩
  | receiveRow _ _ op | sendRow _ _ _ op | sendEnd _ _ op => exact absurd op hne

theorem step_tHoldEnd_changes (h : step s = .next t) (hne : t.tHoldEnd ≠ s.tHoldEnd) :
    t.ctl.isReceive = true ∨ t.ctl.isSend = true ∨ t.ctl.isSettle = true := by
  cases step_shape h with
  | plain ht => exact absurd ht.tHoldEnd hne
  | arrives u hu ht =>
    subst ht
    rw [← hu.tHoldEnd] at hne
    simpa using (arrive_changes u).2.2.1 hne
  | receiveRow hc hL => exact .inl (by rwa [hL])
  | sendRow hc hL => exact .inr (.inl (by rwa [hL]))
  | receiveEnd _ _ _ _ _ tHoldEnd | sendEnd _ _ _ tHoldEnd => exact absurd tHoldEnd hne

theorem step_clk_changes (h : step s = .next t) (hne : t.clk ≠ s.clk) :
    t.ctl.isReceive = true ∨ t.ctl.isSend = true := by
  cases step_shape h with
  | plain ht => exact absurd ht.clk hne
  | arrives u hu ht =>
    subst ht
    rw [← hu.clk] at hne
    exact .inl (by simpa using (arrive_changes u).2.1 (.inr hne))
  | receiveRow hc hL => exact .inl (by rwa [hL])
  | sendRow hc hL => exact .inr (by rwa [hL])
  | receiveEnd _ _ _ _ _ _ clk | sendEnd _ _ _ _ clk => exact absurd clk hne

theorem step_dataDir_changes (h : step s = .next t) (hne : t.dataDir ≠ s.dataDir) :
    s.ctl.isSend = true ∨ t.ctl.isSend = true ∨ s.ctl = .top := by
  by_cases htop : s.ctl = .top
  · exact .inr (.inr htop)
  cases step_shape h with
  | plain ht => exact absurd (ht.dataDir htop) hne
  | arrives u hu ht =>
    subst ht
    rw [← hu.dataDir htop] at hne
    exact .inr (.inl (by simpa using (arrive_changes u).2.2.2 (.inl hne)))
  | receiveRow _ _ _ dataDir | receiveEnd _ _ _ _ _ _ _ dataDir => exact absurd dataDir hne
  | sendRow hc | sendEnd hc => exact .inl hc

theorem step_dataOut_changes (h : step s = .next t) (hne : t.dataOut ≠ s.dataOut) : t.ctl.isSend = true := by
  cases step_shape h with
  | plain ht => exact absurd ht.dataOut hne
  | arrives u hu ht =>
    subst ht
    rw [← hu.dataOut] at hne
    simpa using (arrive_changes u).2.2.2 (.inr hne)
  | receiveRow _ _ _ _ dataOut | receiveEnd _ _ _ _ _ _ _ _ dataOut | sendEnd _ _ _ _ _ dataOut =>
    exact absurd dataOut hne
  | sendRow hc hL => rwa [hL]

/-- Settles O51, register by register. -/
theorem registersChangeOnlyAtTheirRules : Obligations.RegistersChangeOnlyAtTheirRules := fun _ _ h =>
  ⟨fun hne => step_phase_or_bitcnt_changes h (.inl hne), fun hne => step_phase_or_bitcnt_changes h (.inr hne),
    step_acc_changes h, step_op_changes h, step_tx_changes h, step_marker_changes h, step_tEntry_changes h,
    step_tHoldEnd_changes h, step_clk_changes h, step_dataDir_changes h, step_dataOut_changes h⟩

/-! The contexts (44_inquiry_handler R194). -/

/-- A step stays in its context, but for the poll that takes a marker and the two rules of the sub dispatch. -/
theorem step_context (h : step s = .next t) :
    contextOf t.ctl = contextOf s.ctl ∨
    (s.ctl = .inqPoll ∧ t.ctl = .txKeypad ∧ s.takeAt 0 = some t.marker ∧ isMarker s.cfg t.marker = true) ∨
    (s.ctl = .subDispatch ∧ (t.ctl = .txAnswer ∨ t.ctl = .top)) := by
  cases step_next h with
  | inqMarker b hc hk hm ht =>
    subst ht
    exact .inr (.inl ⟨hc, by simp, by simpa using hk, by simpa using hm⟩)
  | subInstant hc _ ht | subDrop hc _ ht =>
    subst ht
    exact .inr (.inr ⟨hc, by simp⟩)
  | waitEnds hc _ _ ht =>
    subst ht
    exact .inl (by simpa using contextOf_afterWait hc)
  | rxEnd hc _ _ ht =>
    subst ht
    exact .inl (by simpa using contextOf_afterReceive hc)
  | txEnd hc _ _ ht =>
    subst ht
    exact .inl (by simpa using contextOf_afterSend hc)
  | waitPolls _ _ _ ht | rxEnter _ _ ht | rxRise _ _ ht | rxSample _ _ _ ht | rxNext _ _ _ ht | txEnter _ _ ht
  | txFall _ _ ht | txRise _ _ ht | txNext _ _ _ _ ht | inqPolls _ _ _ ht =>
    subst ht
    exact .inl (by simp)
  | inquiry hc _ ht | instant hc _ ht | modelNumber hc _ ht | test hc _ ht | unknown hc _ ht | top hc ht
  | settle hc ht | subSettle hc ht | inqKey _ hc _ _ ht | inqDeadline hc _ _ ht =>
    subst ht
    exact .inl (by simp [hc, contextOf])

/-- Settles O48: the marker changes only where the sub context is entered. -/
theorem subContextIsOneLevel : Obligations.SubContextIsOneLevel := by
  intro s t h
  refine ⟨fun hs ht => ?_, fun hs ht => ?_, fun hs _ => ?_⟩
  · obtain same | enters | ⟨hc, -⟩ := step_context h
    · simp [hs, ht] at same
    · exact enters
    · simp [hc, contextOf] at hs
  · obtain same | ⟨hc, -⟩ | leaves := step_context h
    · simp [hs, ht] at same
    · simp [hc, contextOf] at hs
    · exact leaves
  · by_contra hne
    simp [(step_marker_changes h hne).1, contextOf] at hs

/-! Where answers come from (30_encoding R79). -/

/-- Settles O50: of the rules that reach a send label each answers its own value. -/
theorem answersComeFromTheirRules : Obligations.AnswersComeFromTheirRules := by
  intro s t h hs hsend
  cases step_next h with
  | instant hc ho ht =>
    subst ht
    cases hk : s.takeAt 0 with
    | some b => exact .inl ⟨hc, ho, by simp, by simp [instantAnswer]⟩
    | none => exact .inr (.inl ⟨hc, ho, by simp, by simp [instantAnswer, rspNoKey]⟩)
  | modelNumber hc ho ht =>
    subst ht
    exact .inr (.inr (.inl ⟨hc, ho, by simp, by simp [rspModel]⟩))
  | test hc ho ht =>
    subst ht
    exact .inr (.inr (.inr (.inl ⟨hc, ho, by simp, by simp [rspTest]⟩)))
  | inqKey b hc hk hm ht =>
    subst ht
    exact .inr (.inr (.inr (.inr (.inl ⟨hc, by simp, by simpa using hk, by simpa using hm⟩))))
  | inqMarker b hc hk hm ht =>
    subst ht
    exact .inr (.inr (.inr (.inr (.inr (.inl
      ⟨hc, by simp, by simpa using hk, by simpa using hm, by simp [rspKeypad]⟩)))))
  | inqDeadline hc hk hd ht =>
    subst ht
    exact .inr (.inr (.inr (.inr (.inr (.inr (.inl
      ⟨hc, by simp, hk, by simpa [inquiryTimeoutUs] using hd, by simp [rspNoKey]⟩))))))
  | subInstant hc ho ht =>
    subst ht
    exact .inr (.inr (.inr (.inr (.inr (.inr (.inr ⟨hc, ho, by simp, by simp⟩))))))
  | txEnter hc | txFall hc | txRise hc | txNext hc | txEnd hc => simp [hc] at hs
  | waitEnds hc _ _ ht =>
    rcases isWait_cases hc with hc | hc | hc | hc <;> simp [ht, hc, afterWait, Ctl.isSend] at hsend
  | rxEnd _ _ _ ht => simp [ht, (afterReceive_no_frame s.ctl).2.1] at hsend
  | waitPolls _ _ _ ht | rxEnter _ _ ht | rxRise _ _ ht | rxSample _ _ _ ht | rxNext _ _ _ ht
  | inqPolls _ _ _ ht => simp [ht, hs] at hsend
  | inquiry _ _ ht | unknown _ _ ht | subDrop _ _ ht | top _ ht | settle _ ht | subSettle _ ht =>
    simp [ht, Ctl.isSend] at hsend

end Sys2Proof.Machine
end
